-- ==== Sys2Proof/Word.lean ====
section
/-! DEFINITION. The word and the ordered word sequences of the block: spec/00_scope.md R10, R11 and
spec/30_encoding.md R111 to R116. -/

namespace Sys2Proof

/-- A word is 32 bits, bit 31 most significant (R10). -/
abbrev Word := BitVec 32

/-- A Node: 8 ordered words, 256 bits (R111). A leaf and a digest have the same format. -/
abbrev Node := Vector Word 8

/-- A digest: the final chaining state, 8 words (R114). -/
abbrev Digest := Vector Word 8

/-- A sibling pair `left ‖ right`: 16 words, 512 bits (R112). -/
abbrev SiblingPair := Vector Word 16

/-- One 512-bit message block, 16 words (R113). -/
abbrev MessageBlock := Vector Word 16

/-- A padded block: two message blocks, 32 words, 1024 bits (R113). -/
abbrev PaddedBlock := Vector Word 32

/-- A message schedule `W[0..63]` (R161). -/
abbrev Schedule := Vector Word 64

end Sys2Proof
end

