-- ==== Sys2Proof/Config.lean ====
section
/-! DEFINITION. The build parameters of spec/00_scope.md R8 and the free values: what the spec leaves open and
no rule decides. -/

namespace Sys2Proof

/-- The three build parameters of R8. They are fixed when the block is built and no step changes them (R30):
a state carries them as the argument of its step, so that a statement about every state is a statement
about every build. -/
structure Config where
  /-- `N` (`LANES`): the number of lanes. -/
  lanes : Nat
  /-- `CHAN_DEPTH`: the capacity in entries of each request and each response channel. -/
  chanDepth : Nat
  /-- `MAX_LOG2_LEAVES`: the largest `k` for which `2^k` leaves fit the memories. -/
  maxLog2Leaves : Nat
deriving DecidableEq, Repr

/-- The legal values of R8. -/
def Config.wf (c : Config) : Bool :=
  decide (1 ≤ c.lanes) && decide (c.lanes ≤ 255) &&
  decide (1 ≤ c.chanDepth) && decide (c.chanDepth ≤ 255) &&
  decide (1 ≤ c.maxLog2Leaves) && decide (c.maxLog2Leaves ≤ 28)

/-- The build `State.reset` is written for: the parameters of R264's example and of program P3.
DESIGN CHOICE (notes/assumptions/1.md), unsafe: the spec leaves all three open. `State.resetOf` is the
same reset for any build. -/
def Config.standard : Config where
  lanes := 4
  chanDepth := 2
  maxLog2Leaves := 20

/-- FREE VALUE (notes/assumptions/4.md): the `j`-th word of the local buffers and engine registers of lane `i`
after the `n`-th RESET step, which R300 leaves unspecified. -/
opaque Config.unspecified (n i j : Nat) : Word

/-- FREE VALUE (notes/assumptions/3.md): which enabled block step is taken at the `n`-th turn that no input
decides. Any enabled step of any agent may be taken next (R14). -/
opaque Config.schedule (n : Nat) : Nat

end Sys2Proof
end

