-- ==== Sys2Proof/Syntax.lean ====
section
/-! DEFINITION. The syntax: one constructor per row of spec/opcode_table.json, the step kinds of
spec/30_encoding.md R124, and the two frames in which an instruction reaches the block. -/

namespace Sys2Proof

/-- One constructor per row of the opcode table: the 32 host accesses of R123 (register by register) and the
15 step kinds of R124. A lane step carries its lane index `i` (R124), a Host step its index and data. -/
inductive Instr where
  /-- `RD CTRL` (R261). -/
  | rdCtrl
  /-- `RD STATUS` (R262). -/
  | rdStatus
  /-- `RD LEAF_CNT` (R263). -/
  | rdLeafCnt
  /-- `RD IN_WORDS` (R263). -/
  | rdInWords
  /-- `RD OUT_WORDS` (R263). -/
  | rdOutWords
  /-- `RD CONFIG` (R264). -/
  | rdConfig
  /-- `WR CTRL` (R267): `start` is DATA bit 0, the only bit the block looks at. -/
  | wrCtrl (start : BitVec 1)
  /-- `WR STATUS` (R266): its DATA is ignored. -/
  | wrStatus
  /-- `WR LEAF_CNT` (R265). -/
  | wrLeafCnt (data : Word)
  /-- `WR IN_WORDS` (R265). -/
  | wrInWords (data : Word)
  /-- `WR OUT_WORDS` (R265). -/
  | wrOutWords (data : Word)
  /-- `WR CONFIG` (R266): its DATA is ignored. -/
  | wrConfig
  /-- `RD 6`, a reserved index (R268). -/
  | rdRsvd6
  /-- `WR 6`, a reserved index (R268). -/
  | wrRsvd6
  /-- `RD 7`, a reserved index (R268). -/
  | rdRsvd7
  /-- `WR 7`, a reserved index (R268). -/
  | wrRsvd7
  /-- `RD 8`, a reserved index (R268). -/
  | rdRsvd8
  /-- `WR 8`, a reserved index (R268). -/
  | wrRsvd8
  /-- `RD 9`, a reserved index (R268). -/
  | rdRsvd9
  /-- `WR 9`, a reserved index (R268). -/
  | wrRsvd9
  /-- `RD 10`, a reserved index (R268). -/
  | rdRsvd10
  /-- `WR 10`, a reserved index (R268). -/
  | wrRsvd10
  /-- `RD 11`, a reserved index (R268). -/
  | rdRsvd11
  /-- `WR 11`, a reserved index (R268). -/
  | wrRsvd11
  /-- `RD 12`, a reserved index (R268). -/
  | rdRsvd12
  /-- `WR 12`, a reserved index (R268). -/
  | wrRsvd12
  /-- `RD 13`, a reserved index (R268). -/
  | rdRsvd13
  /-- `WR 13`, a reserved index (R268). -/
  | wrRsvd13
  /-- `RD 14`, a reserved index (R268). -/
  | rdRsvd14
  /-- `WR 14`, a reserved index (R268). -/
  | wrRsvd14
  /-- `RD 15`, a reserved index (R268). -/
  | rdRsvd15
  /-- `WR 15`, a reserved index (R268). -/
  | wrRsvd15
  /-- The RESET input, step kind 0x00 (R300). -/
  | reset
  /-- The Host's read step, kind 0x01 (R260): a read of register index `idx`. -/
  | hostRd (idx : BitVec 4)
  /-- The Host's write step, kind 0x02 (R260): a write of `data` to register index `idx`. -/
  | hostWr (idx : BitVec 4) (data : Word)
  /-- ORC_CHECK, kind 0x10 (R203). -/
  | orcCheck
  /-- ORC_DISPATCH, kind 0x11 (R206). -/
  | orcDispatch
  /-- ORC_JOIN, kind 0x12 (R213). -/
  | orcJoin
  /-- PRD_READ, kind 0x20, of lane `lane` (R233). -/
  | prdRead (lane : BitVec 8)
  /-- PRD_PAD, kind 0x21, of lane `lane` (R234). -/
  | prdPad (lane : BitVec 8)
  /-- PRD_SEND, kind 0x22, of lane `lane` (R235). -/
  | prdSend (lane : BitVec 8)
  /-- ENG_RECV, kind 0x30, of lane `lane` (R237). -/
  | engRecv (lane : BitVec 8)
  /-- ENG_COMPRESS, kind 0x31, of lane `lane` (R238). -/
  | engCompress (lane : BitVec 8)
  /-- ENG_SEND, kind 0x32, of lane `lane` (R239). -/
  | engSend (lane : BitVec 8)
  /-- CNS_RECV, kind 0x40, of lane `lane` (R241). -/
  | cnsRecv (lane : BitVec 8)
  /-- CNS_WRITE, kind 0x41, of lane `lane` (R242). -/
  | cnsWrite (lane : BitVec 8)
  /-- CNS_DONE, kind 0x42, of lane `lane` (R246). -/
  | cnsDone (lane : BitVec 8)
deriving DecidableEq, Repr

/-- The step kinds of R124. -/
inductive StepKind where
  | reset | hostRd | hostWr
  | orcCheck | orcDispatch | orcJoin
  | prdRead | prdPad | prdSend
  | engRecv | engCompress | engSend
  | cnsRecv | cnsWrite | cnsDone
deriving DecidableEq, Repr

/-- The step kind of an instruction: a host access is a HOST_RD or a HOST_WR step of the Host (R260). -/
def Instr.kind : Instr → StepKind
  | .rdCtrl | .rdStatus | .rdLeafCnt | .rdInWords | .rdOutWords | .rdConfig => .hostRd
  | .wrCtrl _ | .wrStatus | .wrLeafCnt _ | .wrInWords _ | .wrOutWords _ | .wrConfig => .hostWr
  | .rdRsvd6 | .rdRsvd7 | .rdRsvd8 | .rdRsvd9 | .rdRsvd10 => .hostRd
  | .rdRsvd11 | .rdRsvd12 | .rdRsvd13 | .rdRsvd14 | .rdRsvd15 => .hostRd
  | .wrRsvd6 | .wrRsvd7 | .wrRsvd8 | .wrRsvd9 | .wrRsvd10 => .hostWr
  | .wrRsvd11 | .wrRsvd12 | .wrRsvd13 | .wrRsvd14 | .wrRsvd15 => .hostWr
  | .reset => .reset
  | .hostRd _ => .hostRd
  | .hostWr _ _ => .hostWr
  | .orcCheck => .orcCheck
  | .orcDispatch => .orcDispatch
  | .orcJoin => .orcJoin
  | .prdRead _ => .prdRead
  | .prdPad _ => .prdPad
  | .prdSend _ => .prdSend
  | .engRecv _ => .engRecv
  | .engCompress _ => .engCompress
  | .engSend _ => .engSend
  | .cnsRecv _ => .cnsRecv
  | .cnsWrite _ => .cnsWrite
  | .cnsDone _ => .cnsDone

/-- The lane of a lane step, none for a step of the Host or of the orchestrator (R124). -/
def Instr.lane? : Instr → Option (BitVec 8)
  | .prdRead i | .prdPad i | .prdSend i => some i
  | .engRecv i | .engCompress i | .engSend i => some i
  | .cnsRecv i | .cnsWrite i | .cnsDone i => some i
  | .rdCtrl | .rdStatus | .rdLeafCnt | .rdInWords | .rdOutWords | .rdConfig => none
  | .wrCtrl _ | .wrStatus | .wrLeafCnt _ | .wrInWords _ | .wrOutWords _ | .wrConfig => none
  | .rdRsvd6 | .rdRsvd7 | .rdRsvd8 | .rdRsvd9 | .rdRsvd10 => none
  | .rdRsvd11 | .rdRsvd12 | .rdRsvd13 | .rdRsvd14 | .rdRsvd15 => none
  | .wrRsvd6 | .wrRsvd7 | .wrRsvd8 | .wrRsvd9 | .wrRsvd10 => none
  | .wrRsvd11 | .wrRsvd12 | .wrRsvd13 | .wrRsvd14 | .wrRsvd15 => none
  | .reset | .hostRd _ | .hostWr _ _ => none
  | .orcCheck | .orcDispatch | .orcJoin => none

/-- Whether a step kind is one of the block's own agents (ORC, PRD, ENG, CNS) and not the Host's: the agent
class in bits 7:4 of its code is not 0 (R124). -/
def StepKind.isBlock : StepKind → Bool
  | .reset | .hostRd | .hostWr => false
  | .orcCheck | .orcDispatch | .orcJoin => true
  | .prdRead | .prdPad | .prdSend => true
  | .engRecv | .engCompress | .engSend => true
  | .cnsRecv | .cnsWrite | .cnsDone => true

/-- Whether an instruction is a step of a block agent. -/
def Instr.isBlock (i : Instr) : Bool := i.kind.isBlock

/-- How an instruction reaches the model. A host access arrives at the register port as the 37-bit word of R123,
held in five bytes. Every other step arrives as an event word of seven bytes: the step code of R124 in bits 7:0,
the lane index in bits 15:8, and for HOST_RD and HOST_WR the register index in bits 19:16 and the data in
bits 55:24. DESIGN CHOICE (notes/assumptions/2.md): R124 gives the code's bits and the event's fields, not
where the other fields lie. -/
inductive Frame where
  | access (w : BitVec 40)
  | event (w : BitVec 56)
deriving DecidableEq, Repr

/-- Why the decoder rejects a frame. -/
inductive DecodeError where
  /-- The step code is none of R124's (93_implementation_defined.md I18). -/
  | reservedStepCode
  /-- A five-byte access frame with a bit above the 37 of R123 set. -/
  | accessTooWide
  /-- A field that the event of this step kind does not have is not 0 (R124: the lane index is "0 otherwise"). -/
  | strayField
deriving DecidableEq, Repr

end Sys2Proof
end

