-- ==== Sys2Proof/WellFormed.lean ====
section
/-! DEFINITION. Which instructions name an agent of the build: a lane step names a lane `i ∈ [0, N)`
(spec/00_scope.md R14). Every other instruction is well formed, because no host access is illegal
(spec/30_encoding.md R125). -/

namespace Sys2Proof

/-- A lane step names one of the build's lanes. -/
def Instr.wf (c : Config) (i : Instr) : Bool :=
  match i.lane? with
  | some lane => decide (lane.toNat < c.lanes)
  | none => true

end Sys2Proof
end

