-- ==== Sys2Proof/Decode.lean ====
section
/-! DEFINITION. The decoder, total on every frame and rejecting by name, and after it the encoder, both from the
encoding tables of spec/30_encoding.md (R117, R120, R123, R124). -/

namespace Sys2Proof

/-! ### Step codes (R124) -/

/-- The 8-bit code of a step kind (R124). -/
def StepKind.code : StepKind → BitVec 8
  | .reset => 0x00#8
  | .hostRd => 0x01#8
  | .hostWr => 0x02#8
  | .orcCheck => 0x10#8
  | .orcDispatch => 0x11#8
  | .orcJoin => 0x12#8
  | .prdRead => 0x20#8
  | .prdPad => 0x21#8
  | .prdSend => 0x22#8
  | .engRecv => 0x30#8
  | .engCompress => 0x31#8
  | .engSend => 0x32#8
  | .cnsRecv => 0x40#8
  | .cnsWrite => 0x41#8
  | .cnsDone => 0x42#8

/-- The step kind a code names. Every code outside R124 is reserved and names none. -/
def StepKind.ofCode (c : BitVec 8) : Option StepKind :=
  match c.toNat with
  | 0x00 => some .reset
  | 0x01 => some .hostRd
  | 0x02 => some .hostWr
  | 0x10 => some .orcCheck
  | 0x11 => some .orcDispatch
  | 0x12 => some .orcJoin
  | 0x20 => some .prdRead
  | 0x21 => some .prdPad
  | 0x22 => some .prdSend
  | 0x30 => some .engRecv
  | 0x31 => some .engCompress
  | 0x32 => some .engSend
  | 0x40 => some .cnsRecv
  | 0x41 => some .cnsWrite
  | 0x42 => some .cnsDone
  | _ => none

/-! ### Host accesses (R117, R123) -/

/-- The read of the register that an index selects (R117). -/
def readOf (idx : BitVec 4) : Instr :=
  match idx.toNat with
  | 0 => .rdCtrl
  | 1 => .rdStatus
  | 2 => .rdLeafCnt
  | 3 => .rdInWords
  | 4 => .rdOutWords
  | 5 => .rdConfig
  | 6 => .rdRsvd6
  | 7 => .rdRsvd7
  | 8 => .rdRsvd8
  | 9 => .rdRsvd9
  | 10 => .rdRsvd10
  | 11 => .rdRsvd11
  | 12 => .rdRsvd12
  | 13 => .rdRsvd13
  | 14 => .rdRsvd14
  | _ => .rdRsvd15

/-- The write of `data` to the register that an index selects (R117); CTRL keeps bit 0 alone (R120), and the
registers that ignore a write keep nothing. The event of the access records all of DATA (`Frame.data`). -/
def writeOf (idx : BitVec 4) (data : Word) : Instr :=
  match idx.toNat with
  | 0 => .wrCtrl (data.extractLsb' 0 1)
  | 1 => .wrStatus
  | 2 => .wrLeafCnt data
  | 3 => .wrInWords data
  | 4 => .wrOutWords data
  | 5 => .wrConfig
  | 6 => .wrRsvd6
  | 7 => .wrRsvd7
  | 8 => .wrRsvd8
  | 9 => .wrRsvd9
  | 10 => .wrRsvd10
  | 11 => .wrRsvd11
  | 12 => .wrRsvd12
  | 13 => .wrRsvd13
  | 14 => .wrRsvd14
  | _ => .wrRsvd15

/-- Every 37-bit pattern is a legal access: bit 36 is RW (1 = write), bits 35:32 the index, bits 31:0 the data,
which a read ignores (R123). -/
def decodeAccess (w : BitVec 37) : Instr :=
  if w.extractLsb' 36 1 = 1#1 then writeOf (w.extractLsb' 32 4) (w.extractLsb' 0 32)
  else readOf (w.extractLsb' 32 4)

/-! ### Events (R124) -/

/-- `i` if the fields this step kind does not have are all 0. -/
def ifClear (stray : Bool) (i : Instr) : Except DecodeError Instr :=
  if stray then .error .strayField else .ok i

/-- The instruction of an event, from its fields. -/
def decodeEventFields (code lane : BitVec 8) (idx gap : BitVec 4) (data : Word) :
    Except DecodeError Instr :=
  let noLane := lane != 0#8 || gap != 0#4
  let noHost := idx != 0#4 || gap != 0#4 || data != 0#32
  match StepKind.ofCode code with
  | none => .error .reservedStepCode
  | some .reset => ifClear (noLane || noHost) .reset
  | some .hostRd => ifClear noLane (.hostRd idx)
  | some .hostWr => ifClear noLane (.hostWr idx data)
  | some .orcCheck => ifClear (noLane || noHost) .orcCheck
  | some .orcDispatch => ifClear (noLane || noHost) .orcDispatch
  | some .orcJoin => ifClear (noLane || noHost) .orcJoin
  | some .prdRead => ifClear noHost (.prdRead lane)
  | some .prdPad => ifClear noHost (.prdPad lane)
  | some .prdSend => ifClear noHost (.prdSend lane)
  | some .engRecv => ifClear noHost (.engRecv lane)
  | some .engCompress => ifClear noHost (.engCompress lane)
  | some .engSend => ifClear noHost (.engSend lane)
  | some .cnsRecv => ifClear noHost (.cnsRecv lane)
  | some .cnsWrite => ifClear noHost (.cnsWrite lane)
  | some .cnsDone => ifClear noHost (.cnsDone lane)

/-- The instruction of an event word (the layout is `Frame.event`'s). -/
def decodeEvent (w : BitVec 56) : Except DecodeError Instr :=
  decodeEventFields (w.extractLsb' 0 8) (w.extractLsb' 8 8) (w.extractLsb' 16 4) (w.extractLsb' 20 4)
    (w.extractLsb' 24 32)

/-- The decoder: total on every frame. -/
def decode : Frame → Except DecodeError Instr
  | .access w =>
    if w.extractLsb' 37 3 = 0#3 then .ok (decodeAccess (w.extractLsb' 0 37))
    else .error .accessTooWide
  | .event w => decodeEvent w

/-- The DATA field of a frame, all 32 bits of it (R123, R124), whatever the instruction keeps of it. -/
def Frame.data : Frame → Word
  | .access w => w.extractLsb' 0 32
  | .event w => w.extractLsb' 24 32

/-! ### The encoder -/

/-- A 37-bit access from its fields (R123). -/
def accessWord (rw : BitVec 1) (idx : BitVec 4) (data : Word) : BitVec 37 :=
  rw ++ idx ++ data

/-- A read of an index; the notation writes DATA = 0 (R127). -/
def readFrame (idx : BitVec 4) : Frame :=
  .access ((0#3 ++ accessWord 0#1 idx 0#32 : BitVec 40))

/-- A write of `data` to an index. -/
def writeFrame (idx : BitVec 4) (data : Word) : Frame :=
  .access ((0#3 ++ accessWord 1#1 idx data : BitVec 40))

/-- An event word from its fields. -/
def eventOf (k : StepKind) (lane : BitVec 8) (idx : BitVec 4) (data : Word) : BitVec 56 :=
  data ++ 0#4 ++ idx ++ lane ++ k.code

/-- The register index and the data of a Host step (R117, R123), 0 where it has none. -/
def Instr.hostFields : Instr → BitVec 4 × Word
  | .rdCtrl => (0#4, 0#32)
  | .rdStatus => (1#4, 0#32)
  | .rdLeafCnt => (2#4, 0#32)
  | .rdInWords => (3#4, 0#32)
  | .rdOutWords => (4#4, 0#32)
  | .rdConfig => (5#4, 0#32)
  | .wrCtrl start => (0#4, start.setWidth 32)
  | .wrStatus => (1#4, 0#32)
  | .wrLeafCnt data => (2#4, data)
  | .wrInWords data => (3#4, data)
  | .wrOutWords data => (4#4, data)
  | .wrConfig => (5#4, 0#32)
  | .rdRsvd6 | .wrRsvd6 => (6#4, 0#32)
  | .rdRsvd7 | .wrRsvd7 => (7#4, 0#32)
  | .rdRsvd8 | .wrRsvd8 => (8#4, 0#32)
  | .rdRsvd9 | .wrRsvd9 => (9#4, 0#32)
  | .rdRsvd10 | .wrRsvd10 => (10#4, 0#32)
  | .rdRsvd11 | .wrRsvd11 => (11#4, 0#32)
  | .rdRsvd12 | .wrRsvd12 => (12#4, 0#32)
  | .rdRsvd13 | .wrRsvd13 => (13#4, 0#32)
  | .rdRsvd14 | .wrRsvd14 => (14#4, 0#32)
  | .rdRsvd15 | .wrRsvd15 => (15#4, 0#32)
  | .hostRd idx => (idx, 0#32)
  | .hostWr idx data => (idx, data)
  | .reset | .orcCheck | .orcDispatch | .orcJoin => (0#4, 0#32)
  | .prdRead _ | .prdPad _ | .prdSend _ => (0#4, 0#32)
  | .engRecv _ | .engCompress _ | .engSend _ => (0#4, 0#32)
  | .cnsRecv _ | .cnsWrite _ | .cnsDone _ => (0#4, 0#32)

/-- The event word that hands an instruction to the block: the code of its step, its lane (0 where it has none) and, for
a Host access, its register index and data (R124). -/
def eventWord (i : Instr) : BitVec 56 :=
  eventOf i.kind (i.lane?.getD 0#8) i.hostFields.1 i.hostFields.2

/-- The frame that carries an instruction: the access word of R123 for the rows of format `host_access`, the
event word for the step kinds. -/
def encode : Instr → Frame
  | .rdCtrl => readFrame 0#4
  | .rdStatus => readFrame 1#4
  | .rdLeafCnt => readFrame 2#4
  | .rdInWords => readFrame 3#4
  | .rdOutWords => readFrame 4#4
  | .rdConfig => readFrame 5#4
  | .wrCtrl start => writeFrame 0#4 (start.setWidth 32)
  | .wrStatus => writeFrame 1#4 0#32
  | .wrLeafCnt data => writeFrame 2#4 data
  | .wrInWords data => writeFrame 3#4 data
  | .wrOutWords data => writeFrame 4#4 data
  | .wrConfig => writeFrame 5#4 0#32
  | .rdRsvd6 => readFrame 6#4
  | .wrRsvd6 => writeFrame 6#4 0#32
  | .rdRsvd7 => readFrame 7#4
  | .wrRsvd7 => writeFrame 7#4 0#32
  | .rdRsvd8 => readFrame 8#4
  | .wrRsvd8 => writeFrame 8#4 0#32
  | .rdRsvd9 => readFrame 9#4
  | .wrRsvd9 => writeFrame 9#4 0#32
  | .rdRsvd10 => readFrame 10#4
  | .wrRsvd10 => writeFrame 10#4 0#32
  | .rdRsvd11 => readFrame 11#4
  | .wrRsvd11 => writeFrame 11#4 0#32
  | .rdRsvd12 => readFrame 12#4
  | .wrRsvd12 => writeFrame 12#4 0#32
  | .rdRsvd13 => readFrame 13#4
  | .wrRsvd13 => writeFrame 13#4 0#32
  | .rdRsvd14 => readFrame 14#4
  | .wrRsvd14 => writeFrame 14#4 0#32
  | .rdRsvd15 => readFrame 15#4
  | .wrRsvd15 => writeFrame 15#4 0#32
  | .reset => .event (eventWord .reset)
  | .hostRd idx => .event (eventWord (.hostRd idx))
  | .hostWr idx data => .event (eventWord (.hostWr idx data))
  | .orcCheck => .event (eventWord .orcCheck)
  | .orcDispatch => .event (eventWord .orcDispatch)
  | .orcJoin => .event (eventWord .orcJoin)
  | .prdRead lane => .event (eventWord (.prdRead lane))
  | .prdPad lane => .event (eventWord (.prdPad lane))
  | .prdSend lane => .event (eventWord (.prdSend lane))
  | .engRecv lane => .event (eventWord (.engRecv lane))
  | .engCompress lane => .event (eventWord (.engCompress lane))
  | .engSend lane => .event (eventWord (.engSend lane))
  | .cnsRecv lane => .event (eventWord (.cnsRecv lane))
  | .cnsWrite lane => .event (eventWord (.cnsWrite lane))
  | .cnsDone lane => .event (eventWord (.cnsDone lane))

/-! ### The opcode table's words -/

/-- The frame in which the table's word `w` of `nbits` bits arrives. A row of format `step` has 8 bits, the code of
an event whose other fields stand above it; a row of format `host_access` has 37 bits, five bytes. -/
def tableFrame (nbits w : Nat) : Frame :=
  if nbits ≤ 8 then .event (BitVec.ofNat 56 w) else .access (BitVec.ofNat 40 w)

/-- The instruction the decoder reads from the table's word. -/
def decodeTableWord (nbits w : Nat) : Option Instr :=
  match decode (tableFrame nbits w) with
  | .ok i => some i
  | .error _ => none

end Sys2Proof
end

