-- ==== Sys2Proof/Machine/State.lean ====
section
/-! DEFINITION. The state of the block: spec/10_state.md, spec/20_memory.md R80 to R83, as plain data. -/

namespace Sys2Proof.Machine

/-! ### Reasons to stop -/

/-- Why a step stops with a fault. -/
inductive Fault where
  /-- A memory access reaches a word offset that the space does not have (R82, R83). Raised by the memory reads and
  writes of PRD_READ, CNS_WRITE and the Host's transfers. Safe: the machine stops; no run reaches it (R288).
  notes/assumptions/11.md -/
  | addressOutOfRange
  /-- An invariant of R54 does not hold in the state a step starts from: "stop with an assertion failure, not enter
  ERROR" (R289). Raised by `step`. Safe: no state reachable from reset raises it. notes/assumptions/9.md -/
  | assertionFailed
deriving DecidableEq, Repr

/-- Why a step is refused. -/
inductive Refusal where
  /-- The instruction has no meaning yet. Raised by `exec`'s arms only. Safe. -/
  | notModelled (mnemonic : String)
  /-- The decoder rejects the frame: it names no step (I18). Raised by `step`. Safe. -/
  | undecodable (why : DecodeError)
  /-- A lane step of a lane outside `[0, N)`: the build has no such agent (R14). Raised by the nine lane steps.
  Safe. notes/assumptions/14.md -/
  | noSuchLane
  /-- A Host read or write of LeafMem or NodeMem while BUSY: "The model gives the Host no memory step while BUSY"
  (R271, I12, I13). Raised by the Host's transfers. Safe. notes/assumptions/16.md -/
  | hostMemoryWhileBusy
deriving DecidableEq, Repr

/-- What one step answers. -/
abbrev Result (σ : Type) := Host.Outcome σ Fault Refusal

/-! ### Memory -/

/-- The two memories of R80. The third space, REG, is the registers. -/
inductive Space where
  | leaf
  | node
deriving DecidableEq, Repr

/-- A memory: (word offset, word) cells, offsets strictly rising, no cell equal to what an unlisted offset reads as
(notes/assumptions/5.md, 12.md). The addressable unit is the 32-bit word (R81). -/
abbrev Memory := List (Nat × Word)

/-! ### The orchestrator -/

/-- The FSM states (R38, R121). The codes 6 and 7 are reserved and name none (notes/assumptions/13.md). -/
inductive Fsm where
  | idle
  | leafLevel
  | internalLevel
  | root
  | done
  | error
deriving DecidableEq, Repr

/-- The error codes that are produced (R122). The reserved codes name none (notes/assumptions/13.md). -/
inductive ErrCode where
  | none
  | cfgLeafCnt
  | cfgInWords
  | cfgOutWords
  | resCapacity
deriving DecidableEq, Repr

/-! ### The lanes -/

/-- `prd_phase` (R44). -/
inductive PrdPhase where
  | read
  | pad
  | send
deriving DecidableEq, Repr

/-- `eng_phase` (R45). -/
inductive EngPhase where
  | idle
  | compute
  | out
deriving DecidableEq, Repr

/-- `cns_phase` (R46). -/
inductive CnsPhase where
  | recv
  | write
deriving DecidableEq, Repr

/-- The 8 working registers (R45). -/
structure WorkRegs where
  a : Word
  b : Word
  c : Word
  d : Word
  e : Word
  f : Word
  g : Word
  h : Word
deriving DecidableEq, Repr

/-- The compression datapath (R45): chaining state, working registers, message schedule, round counter, block
counter. -/
structure Datapath where
  h : Vector Word 8
  work : WorkRegs
  w : Schedule
  t : BitVec 6
  blk : BitVec 1
deriving DecidableEq, Repr

/-- The local buffers and engine registers of a lane (R44, R45, R46): the elements for which the spec gives no reset
value (R52, R53). -/
structure LaneBuffers where
  /-- `PB[i]`, the pair buffer. -/
  pb : SiblingPair
  /-- `BB[i]`, the block buffer. -/
  bb : PaddedBlock
  /-- `EB[i]`, the received block. -/
  eb : PaddedBlock
  /-- `ED[i]`, the computed digest. -/
  ed : Digest
  /-- `DB[i]`, the digest buffer. -/
  db : Digest
  /-- `H`, `a` to `h`, `W`, `t` and the block counter. -/
  dp : Datapath
deriving DecidableEq, Repr

/-- One lane: its command (R43), producer (R44), engine (R45), consumer (R46) and channels (R47). -/
structure Lane where
  cmdValid : Bool
  cmdLevel : BitVec 5
  cmdCount : BitVec 32
  prdK : BitVec 32
  prdPhase : PrdPhase
  engPhase : EngPhase
  cnsK : BitVec 32
  cnsPhase : CnsPhase
  done : Bool
  /-- `REQ[i]`, head first. -/
  req : List PaddedBlock
  /-- `RSP[i]`, head first. -/
  rsp : List Digest
  buf : LaneBuffers
deriving DecidableEq, Repr

/-! ### What the environment hands the block -/

/-- One input: a frame (a Host access, a RESET, or the choice of the agent that moves next), or a transfer-layer write
or read of LeafMem or NodeMem (R127 LOAD, R270, R272). -/
inductive Input where
  | frame (f : Frame)
  | store (sp : Space) (a : Nat) (ws : List Word)
  | load (sp : Space) (a n : Nat)
deriving DecidableEq, Repr

/-! ### Events (R124) -/

/-- The data of a step's rule, as an event records it. DESIGN CHOICE (notes/assumptions/10.md): R124 does not list it; the
model takes the values that the rule moves or computes. -/
inductive EventData where
  /-- RESET: its rule takes no data. -/
  | none
  /-- A Host access: the register index, and the word returned or written. -/
  | access (idx : BitVec 4) (word : Word)
  /-- ORC_CHECK: the code of the check. -/
  | check (code : ErrCode)
  /-- ORC_DISPATCH: the level, and each lane's pair count. -/
  | commands (level : BitVec 5) (counts : List (BitVec 32))
  /-- ORC_JOIN: the state and the level it enters. -/
  | entered (fsm : Fsm) (level : BitVec 5)
  /-- PRD_READ: the source of the pair, and its 16 words. -/
  | pairRead (sp : Space) (a : Nat) (pair : SiblingPair)
  /-- PRD_PAD, PRD_SEND, ENG_RECV: the padded block. -/
  | block (b : PaddedBlock)
  /-- ENG_COMPRESS, ENG_SEND, CNS_RECV: the digest. -/
  | digest (d : Digest)
  /-- CNS_WRITE: the offset in NodeMem, and the 8 words. -/
  | nodeWritten (a : Nat) (node : Digest)
  /-- CNS_DONE: the level and the lane's pair count. -/
  | committed (level : BitVec 5) (count : BitVec 32)
deriving DecidableEq, Repr

/-- An event: the step's code, the lane index (0 for a step of no lane) and the data of the step's rule (R124). -/
structure Event where
  code : BitVec 8
  lane : BitVec 8
  data : EventData
deriving DecidableEq, Repr

/-! ### The state -/

/-- The state of the block and, last, the model's own fields. -/
structure State where
  /-- The build parameters (R8, R30); no step changes them. -/
  cfg : Config
  /-- `LEAF_CNT` (R31). -/
  leafCnt : Word
  /-- `IN_WORDS` (R32). -/
  inWords : Word
  /-- `OUT_WORDS` (R33). -/
  outWords : Word
  /-- `fsm` (R38). -/
  fsm : Fsm
  /-- `cur_level` (R39). -/
  curLevel : BitVec 5
  /-- `dispatched` (R40). -/
  dispatched : Bool
  /-- `err_code` (R42). -/
  errCode : ErrCode
  /-- The lanes, lane `i` at position `i` (R43 to R47). -/
  lanes : List Lane
  /-- LeafMem (R82). -/
  leafMem : Memory
  /-- NodeMem (R83). -/
  nodeMem : Memory
  /-- What the environment hands the block next, in order. The MODEL's own (notes/assumptions/3.md, 7.md). -/
  inputs : List Input
  /-- The word the last register read returned to the Host (R260). The MODEL's own (notes/assumptions/8.md). -/
  rdata : Word
  /-- The words the last transfer-layer read returned. The MODEL's own (notes/assumptions/8.md). -/
  xferData : List Word
  /-- The events of the steps taken (R124), newest first. The MODEL's own (notes/assumptions/10.md). -/
  history : List Event
  /-- How often the free scheduler has chosen. The MODEL's own (notes/assumptions/3.md). -/
  turn : Nat
  /-- How many RESET steps were taken. The MODEL's own (notes/assumptions/4.md). -/
  resets : Nat
deriving DecidableEq, Repr

/-! ### Reset -/

/-- The buffers at `State.reset`: every word 0. DESIGN CHOICE (notes/assumptions/4.md), unsafe: R52 leaves them
unspecified. -/
def LaneBuffers.zero : LaneBuffers where
  pb := Vector.replicate 16 0
  bb := Vector.replicate 32 0
  eb := Vector.replicate 32 0
  ed := Vector.replicate 8 0
  db := Vector.replicate 8 0
  dp :=
    { h := Vector.replicate 8 0
      work := ⟨0, 0, 0, 0, 0, 0, 0, 0⟩
      w := Vector.replicate 64 0
      t := 0
      blk := 0 }

/-- A lane's reset values (R52), with the buffers that R52 leaves unspecified given. -/
def Lane.resetWith (buf : LaneBuffers) : Lane where
  cmdValid := false
  cmdLevel := 0
  cmdCount := 0
  prdK := 0
  prdPhase := .read
  engPhase := .idle
  cnsK := 0
  cnsPhase := .recv
  done := false
  req := []
  rsp := []
  buf := buf

/-- Power-on of the build `c` (R304): the values of R52, with what the rule leaves unspecified as arguments: the buffers
and engine registers of each lane (R53), and the words of the two memories. Nothing has been handed to the block. -/
def State.powerOn (c : Config) (bufs : Nat → LaneBuffers) (leaf node : Memory) : State where
  cfg := c
  leafCnt := 0
  inWords := 0
  outWords := 0
  fsm := .idle
  curLevel := 0
  dispatched := false
  errCode := .none
  lanes := (List.range c.lanes).map fun i => Lane.resetWith (bufs i)
  leafMem := leaf
  nodeMem := node
  inputs := []
  rdata := 0
  xferData := []
  history := []
  turn := 0
  resets := 0

/-- One power-on state of the build `c`, that whose unspecified words are all 0. DESIGN CHOICE (notes/assumptions/4.md,
5.md), unsafe. -/
def State.resetOf (c : Config) : State := State.powerOn c (fun _ => LaneBuffers.zero) [] []

/-- The machine right after reset, for the build `Config.standard` (notes/assumptions/1.md). -/
def State.reset : State := State.resetOf Config.standard

end Sys2Proof.Machine
end

