-- ==== Sys2Proof/Machine/Padding.lean ====
section
/-! DEFINITION. The padding module: spec/40_padding.md. It is defined on 16-word sequences alone, by its type
(R142). -/

namespace Sys2Proof.Machine

/-- PADBLK, the second half of every padded block (R113, R141). -/
def padBlk : MessageBlock :=
  #v[0x80000000#32, 0#32, 0#32, 0#32, 0#32, 0#32, 0#32, 0#32, 0#32, 0#32, 0#32, 0#32, 0#32, 0#32, 0#32, 0x00000200#32]

/-- `pad(p)`: the pair verbatim, then PADBLK (R140). -/
def pad (p : SiblingPair) : PaddedBlock := p ++ padBlk

end Sys2Proof.Machine
end

