-- ==== Sys2Proof/Machine/Compression.lean ====
section
/-! DEFINITION. The compression engine's function: spec/41_compression.md. -/

namespace Sys2Proof.Machine

/-! ### Primitive operations (R150 to R158); `+32` (R152) is the addition of `Word` -/

/-- `ROTR(x, n) = (x >> n) | (x << (32 − n))` (R150). -/
def rotr (x : Word) (n : Nat) : Word := (x >>> n) ||| (x <<< (32 - n))

/-- `SHR(x, n)`, zeros filled in at the top (R151). -/
def shr (x : Word) (n : Nat) : Word := x >>> n

/-- `Ch` (R153). -/
def shaCh (x y z : Word) : Word := (x &&& y) ^^^ (~~~x &&& z)

/-- `Maj` (R154). -/
def shaMaj (x y z : Word) : Word := (x &&& y) ^^^ (x &&& z) ^^^ (y &&& z)

/-- `Σ0` (R155). -/
def bigSigma0 (x : Word) : Word := rotr x 2 ^^^ rotr x 13 ^^^ rotr x 22

/-- `Σ1` (R156). -/
def bigSigma1 (x : Word) : Word := rotr x 6 ^^^ rotr x 11 ^^^ rotr x 25

/-- `σ0` (R157). -/
def smallSigma0 (x : Word) : Word := rotr x 7 ^^^ rotr x 18 ^^^ shr x 3

/-- `σ1` (R158). -/
def smallSigma1 (x : Word) : Word := rotr x 17 ^^^ rotr x 19 ^^^ shr x 10

/-! ### Constants (R159, R160) -/

/-- A line of R159's table: the eight round constants `K[8i]` to `K[8i+7]`, the first the most significant. -/
def roundKLine (i : Nat) : BitVec 256 :=
  match i with
  | 0 => 0x428a2f98_71374491_b5c0fbcf_e9b5dba5_3956c25b_59f111f1_923f82a4_ab1c5ed5
  | 1 => 0xd807aa98_12835b01_243185be_550c7dc3_72be5d74_80deb1fe_9bdc06a7_c19bf174
  | 2 => 0xe49b69c1_efbe4786_0fc19dc6_240ca1cc_2de92c6f_4a7484aa_5cb0a9dc_76f988da
  | 3 => 0x983e5152_a831c66d_b00327c8_bf597fc7_c6e00bf3_d5a79147_06ca6351_14292967
  | 4 => 0x27b70a85_2e1b2138_4d2c6dfc_53380d13_650a7354_766a0abb_81c2c92e_92722c85
  | 5 => 0xa2bfe8a1_a81a664b_c24b8b70_c76c51a3_d192e819_d6990624_f40e3585_106aa070
  | 6 => 0x19a4c116_1e376c08_2748774c_34b0bcb5_391c0cb3_4ed8aa4a_5b9cca4f_682e6ff3
  | _ => 0x748f82ee_78a5636f_84c87814_8cc70208_90befffa_a4506ceb_bef9a3f7_c67178f2

/-- The round constant `K[t]`, `t < 64`: word `t mod 8` of line `t / 8` of R159's table. -/
def roundK (t : Nat) : Word := (roundKLine (t / 8)).extractLsb' (32 * (7 - t % 8)) 32

/-- The initial state `IV[0..7]` (R160). -/
def iv : Vector Word 8 := #v[
  0x6a09e667, 0xbb67ae85, 0x3c6ef372, 0xa54ff53a, 0x510e527f, 0x9b05688c, 0x1f83d9ab, 0x5be0cd19]

/-! ### One block (R161 to R164) -/

/-- The first `16 + n` words of the message schedule of `m` (R161). -/
def scheduleTo (m : MessageBlock) : (n : Nat) → Vector Word (16 + n)
  | 0 => m
  | n + 1 =>
    let w := scheduleTo m n
    w.push (smallSigma1 w[16 + n - 2] + w[16 + n - 7] + smallSigma0 w[16 + n - 15] + w[16 + n - 16])

/-- The message schedule `W[0..63]` (R161). -/
def schedule (m : MessageBlock) : Schedule := scheduleTo m 48

/-- Round `t`, from the registers before it (R162). -/
def shaRound (w : Schedule) (t : Fin 64) (r : WorkRegs) : WorkRegs :=
  let t1 := r.h + bigSigma1 r.e + shaCh r.e r.f r.g + roundK t + w[t]
  let t2 := bigSigma0 r.a + shaMaj r.a r.b r.c
  { a := t1 + t2, b := r.a, c := r.b, d := r.c, e := r.d + t1, f := r.e, g := r.f, h := r.g }

/-- Rounds `0` to `n − 1`, in order (R163). -/
def shaRounds (w : Schedule) (r : WorkRegs) : (n : Nat) → n ≤ 64 → WorkRegs
  | 0, _ => r
  | n + 1, h => shaRound w ⟨n, h⟩ (shaRounds w r n (Nat.le_of_succ_le h))

/-- The working registers loaded from the chaining state (R164). -/
def loadRegs (h : Vector Word 8) : WorkRegs :=
  ⟨h[0], h[1], h[2], h[3], h[4], h[5], h[6], h[7]⟩

/-- The working registers after the 64 rounds of block `m` (R164). -/
def blockRegs (h : Vector Word 8) (m : MessageBlock) : WorkRegs :=
  shaRounds (schedule m) (loadRegs h) 64 (Nat.le_refl 64)

/-- The feed-forward addition (R164). -/
def feedForward (h : Vector Word 8) (r : WorkRegs) : Vector Word 8 :=
  #v[h[0] + r.a, h[1] + r.b, h[2] + r.c, h[3] + r.d, h[4] + r.e, h[5] + r.f, h[6] + r.g, h[7] + r.h]

/-- `sha_block(H, M)` (R164). -/
def shaBlock (h : Vector Word 8) (m : MessageBlock) : Vector Word 8 :=
  feedForward h (blockRegs h m)

/-! ### The engine's function (R165, R166) -/

/-- `b[0..15]`, the first message block of a padded block. -/
def firstBlock (b : PaddedBlock) : MessageBlock := Vector.ofFn fun i : Fin 16 => b[i.val]

/-- `b[16..31]`, the second message block of a padded block. -/
def secondBlock (b : PaddedBlock) : MessageBlock := Vector.ofFn fun i : Fin 16 => b[16 + i.val]

/-- `compress(b)` (R165). -/
def compress (b : PaddedBlock) : Digest :=
  shaBlock (shaBlock iv (firstBlock b)) (secondBlock b)

/-- The datapath registers as the computation of `compress(b)` leaves them (R45, R165): the chaining state after the
second block, its schedule and working registers, and the last round and block. DEDUCED (notes/assumptions/17.md):
no rule reads them again. -/
def datapathAfter (b : PaddedBlock) : Datapath where
  h := compress b
  work := blockRegs (shaBlock iv (firstBlock b)) (secondBlock b)
  w := schedule (secondBlock b)
  t := 63
  blk := 1

/-- `hash_pair(p) = compress(pad(p))` (R166). -/
def hashPair (p : SiblingPair) : Digest := compress (pad p)

end Sys2Proof.Machine
end

