-- ==== Sys2Proof/Machine/Bytes.lean ====
section
/-! DEFINITION. The Host's byte packing: spec/20_memory.md R88, R89. It is a property of the Host interface; no step of
the block sees a byte (R90). -/

namespace Sys2Proof.Machine

/-- The word of four bytes, most significant first (R88). -/
def packWord (b0 b1 b2 b3 : BitVec 8) : Word := b0 ++ b1 ++ b2 ++ b3

/-- The Node of 32 bytes: word `w` packs bytes `4w` to `4w+3` (R88). -/
def packNode (b : Vector (BitVec 8) 32) : Node :=
  Vector.ofFn fun w : Fin 8 =>
    packWord b[4 * w.val] b[4 * w.val + 1] b[4 * w.val + 2] b[4 * w.val + 3]

/-- The sibling pair of 64 bytes (R88). -/
def packPair (b : Vector (BitVec 8) 64) : SiblingPair :=
  Vector.ofFn fun w : Fin 16 =>
    packWord b[4 * w.val] b[4 * w.val + 1] b[4 * w.val + 2] b[4 * w.val + 3]

/-- Byte `j` of a word, byte 0 the most significant (D4: bits `[31−8j : 24−8j]`). -/
def byteOf (x : Word) (j : Nat) : BitVec 8 := x.extractLsb' (24 - 8 * j) 8

/-- The 32-byte form of a Node (R89). -/
def nodeBytes (n : Node) : Vector (BitVec 8) 32 :=
  Vector.ofFn fun i : Fin 32 => byteOf (n[i.val / 4]'(by omega)) (i.val % 4)

end Sys2Proof.Machine
end

