-- ==== Sys2Proof/Machine/Memory.lean ====
section
/-! DEFINITION. Reads and writes of the word-addressed memories: spec/20_memory.md R80 to R83, R87, R93 to R95, and
`MemRead` and `MemWrite` of spec/00_scope.md R13. -/

namespace Sys2Proof.Machine

/-- What a word offset that the memory does not list reads as. DESIGN CHOICE (notes/assumptions/5.md), unsafe: the
power-on contents are unspecified (R304, I8). -/
def Memory.unlisted : Word := 0#32

/-- The word at an offset. -/
def Memory.read (m : Memory) (a : Nat) : Word :=
  match m with
  | [] => Memory.unlisted
  | (k, v) :: rest => if k = a then v else Memory.read rest a

/-- A cell put before the cells `rest`, or nothing where it would equal an unlisted word. -/
def Memory.consCell (a : Nat) (v : Word) (rest : Memory) : Memory :=
  if v = Memory.unlisted then rest else (a, v) :: rest

/-- One word written; the list keeps its canonical form. -/
def Memory.write (m : Memory) (a : Nat) (v : Word) : Memory :=
  match m with
  | [] => Memory.consCell a v []
  | (k, w) :: rest =>
    if a < k then Memory.consCell a v ((k, w) :: rest)
    else if a = k then Memory.consCell a v rest
    else (k, w) :: Memory.write rest a v

/-- Every cell of the list lies above `a` and holds a word that an unlisted offset does not read as, in strictly
rising order. -/
def Memory.wfAbove (a : Nat) (m : Memory) : Bool :=
  match m with
  | [] => true
  | (k, v) :: rest => decide (a < k) && v != Memory.unlisted && Memory.wfAbove k rest

/-- The canonical form: offsets strictly rising, no cell equal to an unlisted word. -/
def Memory.wf (m : Memory) : Bool :=
  match m with
  | [] => true
  | (k, v) :: rest => v != Memory.unlisted && Memory.wfAbove k rest

/-- `n` words at consecutive offsets, element 0 from the lowest (R13, R87). -/
def Memory.readWords (m : Memory) (a n : Nat) : Vector Word n :=
  Vector.ofFn fun j : Fin n => Memory.read m (a + j.val)

/-- Words written at consecutive offsets, the first at the lowest (R13, R87). -/
def Memory.writeWords (m : Memory) (a : Nat) (ws : List Word) : Memory :=
  match ws with
  | [] => m
  | w :: rest => Memory.writeWords (Memory.write m a w) (a + 1) rest

/-- The number of words of a space: LEAF_WORDS (R82), NODE_WORDS (R83). -/
def Space.size (c : Config) (sp : Space) : Nat :=
  match sp with
  | .leaf => 8 * 2 ^ c.maxLog2Leaves
  | .node => 8 * (2 ^ c.maxLog2Leaves - 1)

/-- Whether the `n` words at `a` exist. -/
def Space.holds (c : Config) (sp : Space) (a n : Nat) : Bool :=
  decide (a + n ≤ Space.size c sp)

/-- The memory of a space. -/
def State.memOf (s : State) (sp : Space) : Memory :=
  match sp with
  | .leaf => s.leafMem
  | .node => s.nodeMem

/-- The state with the memory of a space replaced. -/
def State.withMem (s : State) (sp : Space) (m : Memory) : State :=
  match sp with
  | .leaf => { s with leafMem := m }
  | .node => { s with nodeMem := m }

/-- `MemRead(space, a, n)` (R13); none where a word of it does not exist. -/
def State.memRead (s : State) (sp : Space) (a n : Nat) : Option (Vector Word n) :=
  if Space.holds s.cfg sp a n then some (Memory.readWords (s.memOf sp) a n) else none

/-- `MemWrite(space, a, n, v)` (R13); none where a word of it does not exist. -/
def State.memWrite (s : State) (sp : Space) (a : Nat) (ws : List Word) : Option State :=
  if Space.holds s.cfg sp a ws.length then some (s.withMem sp (Memory.writeWords (s.memOf sp) a ws))
  else none

end Sys2Proof.Machine
end

