-- ==== Sys2Proof/Machine/Operands.lean ====
section
/-! DEFINITION. Where a step's operands come from: the addressing model and the lane striping of
spec/42_addressing.md and the configuration check of spec/43_orchestrator.md R204. All quantities are unbounded
non-negative integers. -/

namespace Sys2Proof.Machine

/-- `rounds = log2(L) − 1` (R15). -/
def roundsOf (L : Nat) : Nat := Nat.log2 L - 1

/-- `P(r) = node_count(r) = L >> (r+1)` (R180). -/
def nodeCount (L r : Nat) : Nat := L >>> (r + 1)

/-- `level_off(r) = 8 · ((L >> (r+1)) − 1)` (R181). -/
def levelOff (L r : Nat) : Nat := 8 * (nodeCount L r - 1)

/-- `node_addr(r, i) = level_off(r) + 8·i` (R182). -/
def nodeAddr (L r i : Nat) : Nat := levelOff L r + 8 * i

/-- Leaf `j` is at LeafMem offset `8j` (R183). -/
def leafAddr (j : Nat) : Nat := 8 * j

/-- `pair_src(r, j)`: LeafMem for level 0, the level below in NodeMem for the others (R184). -/
def pairSrc (L r j : Nat) : Space × Nat :=
  match r with
  | 0 => (.leaf, 16 * j)
  | q + 1 => (.node, levelOff L q + 16 * j)

/-- `pair_dst(r, j)`, an offset of NodeMem (R185). -/
def pairDst (L r j : Nat) : Nat := levelOff L r + 8 * j

/-- `lane_pairs(P, N, i)` (R186). -/
def lanePairs (P N i : Nat) : Nat :=
  if i ≥ P then 0 else (P - 1 - i) / N + 1

/-- The pair that is lane `i`'s `k`-th (R187). -/
def pairIndex (N i k : Nat) : Nat := i + k * N

/-- `check_config(L, inw, outw)`: the first failing check gives the code (R204, R286). -/
def checkConfig (c : Config) (L inw outw : Nat) : ErrCode :=
  if L < 2 ∨ L &&& (L - 1) ≠ 0 then .cfgLeafCnt
  else if Nat.log2 L > c.maxLog2Leaves then .resCapacity
  else if inw ≠ 8 * L then .cfgInWords
  else if outw ≠ 8 * (L - 1) then .cfgOutWords
  else .none

/-- `L`, the value of LEAF_CNT (R15). -/
def State.leaves (s : State) : Nat := s.leafCnt.toNat

/-- The code `check_config` gives for the registers of a state (R203). -/
def State.check (s : State) : ErrCode :=
  checkConfig s.cfg s.leafCnt.toNat s.inWords.toNat s.outWords.toNat

end Sys2Proof.Machine
end

