-- ==== Sys2Proof/Machine/Flags.lean ====
section
/-! DEFINITION. The run predicates and the computed registers: spec/10_state.md R35, R36, R41 and the layouts of
spec/30_encoding.md R118, R119, R121, R122. -/

namespace Sys2Proof.Machine

/-- The 3-bit code of an FSM state (R121). -/
def Fsm.code : Fsm → BitVec 3
  | .idle => 0#3
  | .leafLevel => 1#3
  | .internalLevel => 2#3
  | .root => 3#3
  | .done => 4#3
  | .error => 5#3

/-- The 4-bit error code (R122). -/
def ErrCode.code : ErrCode → BitVec 4
  | .none => 0x0#4
  | .cfgLeafCnt => 0x1#4
  | .cfgInWords => 0x2#4
  | .cfgOutWords => 0x3#4
  | .resCapacity => 0x8#4

/-- The class of a code is its bit 3: set for ResourceExhaustion, clear for ConfigurationError (R122). -/
def ErrCode.isResource (e : ErrCode) : Bool := e.code.getLsbD 3

/-- BUSY ⇔ fsm ∈ LEAF_LEVEL, INTERNAL_LEVEL, ROOT (R41). -/
def Fsm.busy : Fsm → Bool
  | .leafLevel | .internalLevel | .root => true
  | .idle | .done | .error => false

/-- The states in which levels are produced: INTERNAL_LEVEL and ROOT (R206, R213). -/
def Fsm.producing : Fsm → Bool
  | .internalLevel | .root => true
  | .idle | .leafLevel | .done | .error => false

/-- BUSY (R41). -/
def State.busy (s : State) : Bool := s.fsm.busy

/-- DONE (R41). -/
def State.isDone (s : State) : Bool := s.fsm == .done

/-- ERROR (R41). -/
def State.isError (s : State) : Bool := s.fsm == .error

/-- A one-bit field at bit `k` of a word. -/
def flagAt (b : Bool) (k : Nat) : Word := (BitVec.ofBool b).setWidth 32 <<< k

/-- `STATUS = BUSY | DONE<<1 | ERR<<2 | dispatched<<3 | err_code<<4 | fsmcode<<8 | cur_level<<16` (R118). -/
def State.statusWord (s : State) : Word :=
  flagAt s.busy 0 ||| flagAt s.isDone 1 ||| flagAt s.isError 2 ||| flagAt s.dispatched 3 |||
    s.errCode.code.setWidth 32 <<< 4 ||| s.fsm.code.setWidth 32 <<< 8 ||| s.curLevel.setWidth 32 <<< 16

/-- `CONFIG = N | MAX_LOG2_LEAVES<<8 | CHAN_DEPTH<<16` (R36, R119). -/
def configWord (c : Config) : Word :=
  BitVec.ofNat 32 c.lanes ||| BitVec.ofNat 32 c.maxLog2Leaves <<< 8 ||| BitVec.ofNat 32 c.chanDepth <<< 16

end Sys2Proof.Machine
end

