-- ==== Sys2Proof/Machine/Ops.lean ====
section
/-! DEFINITION. The named operations that the meanings are made of: register reads and writes, START, the entry to ERROR,
RESET, the channels, and one step of a lane. -/

namespace Sys2Proof.Machine

/-- At a turn at which its step is not enabled an agent has no such step (R13): it blocks, which fails, drops and
overwrites nothing (R230). DEDUCED (notes/assumptions/6.md): such a turn leaves the state as it is. -/
def waits (s : State) : Result State := .next s

/-! ### Host-visible registers (R117; R260 to R268) -/

/-- The word a read of a register index returns (R261 to R264, R268). -/
def State.regRead (s : State) (idx : BitVec 4) : Word :=
  match idx.toNat with
  | 0 => 0#32
  | 1 => s.statusWord
  | 2 => s.leafCnt
  | 3 => s.inWords
  | 4 => s.outWords
  | 5 => configWord s.cfg
  | _ => 0#32

/-- START's effect: LEAF_LEVEL with the error code, the level and the barrier flag cleared (R267). It is also the only
way out of ERROR and DONE beside RESET: the block has no return from an error (R287). -/
def State.start (s : State) : State :=
  { s with errCode := .none, curLevel := 0#5, dispatched := false, fsm := .leafLevel }

/-- The effect of a write to a register index: START for CTRL (R267), LEAF_CNT, IN_WORDS and OUT_WORDS unless BUSY
(R265), nothing for the others (R266, R268). -/
def State.regWrite (s : State) (idx : BitVec 4) (data : Word) : State :=
  match idx.toNat with
  | 0 => if data.getLsbD 0 && !s.busy then s.start else s
  | 2 => if s.busy then s else { s with leafCnt := data }
  | 3 => if s.busy then s else { s with inWords := data }
  | 4 => if s.busy then s else { s with outWords := data }
  | _ => s

/-- A Host read: one word returned to the Host, and nothing else changed (R95, R260). -/
def hostRead (idx : BitVec 4) (s : State) : Result State :=
  .next { s with rdata := s.regRead idx }

/-- A Host write (R260). -/
def hostWrite (idx : BitVec 4) (data : Word) (s : State) : Result State :=
  .next (s.regWrite idx data)

/-! ### Error entry: the block's "trap" (R283) -/

/-- The entry to ERROR with code `c`, one atomic step that changes these four fields and nothing else (R283). -/
def State.raiseError (s : State) (c : ErrCode) : State :=
  { s with errCode := c, curLevel := 0#5, dispatched := false, fsm := .error }

/-! ### RESET (R300) -/

/-- The free values that lane `i`'s buffers and engine registers hold after the `n`-th RESET step
(notes/assumptions/4.md). -/
def freeBuffers (n i : Nat) : LaneBuffers where
  pb := Vector.ofFn fun j : Fin 16 => Config.unspecified n i j.val
  bb := Vector.ofFn fun j : Fin 32 => Config.unspecified n i (16 + j.val)
  eb := Vector.ofFn fun j : Fin 32 => Config.unspecified n i (48 + j.val)
  ed := Vector.ofFn fun j : Fin 8 => Config.unspecified n i (80 + j.val)
  db := Vector.ofFn fun j : Fin 8 => Config.unspecified n i (88 + j.val)
  dp :=
    { h := Vector.ofFn fun j : Fin 8 => Config.unspecified n i (96 + j.val)
      work := loadRegs (Vector.ofFn fun j : Fin 8 => Config.unspecified n i (104 + j.val))
      w := Vector.ofFn fun j : Fin 64 => Config.unspecified n i (112 + j.val)
      t := (Config.unspecified n i 176).setWidth 6
      blk := (Config.unspecified n i 177).setWidth 1 }

/-- RESET's effect: the values of R52, the buffers unspecified, the memories kept (R300, R302). -/
def State.resetBlock (s : State) : State :=
  { s with
    leafCnt := 0#32
    inWords := 0#32
    outWords := 0#32
    fsm := .idle
    curLevel := 0#5
    dispatched := false
    errCode := .none
    lanes := s.lanes.mapIdx fun i _ => Lane.resetWith (freeBuffers s.resets i)
    resets := s.resets + 1 }

/-! ### Channels (R13, R230) -/

/-- `ChanSend(ch, v)`: at the tail. Its step is enabled only while the channel holds fewer than CHAN_DEPTH entries. -/
def chanSend {α : Type} (ch : List α) (v : α) : List α := ch ++ [v]

/-- `ChanRecv(ch)`: the head and the rest, none from an empty channel. -/
def chanRecv {α : Type} (ch : List α) : Option (α × List α) :=
  match ch with
  | [] => none
  | v :: rest => some (v, rest)

/-! ### Lanes -/

/-- The state with lane `i` replaced. -/
def State.setLane (s : State) (i : Nat) (l : Lane) : State :=
  { s with lanes := s.lanes.set i l }

/-- One step of lane `i`: refused where the build has no such lane, a wait where the step's condition does not hold,
else what the step does. -/
def laneStep (i : BitVec 8) (s : State) (ready : Lane → Bool) (act : Lane → Result State) : Result State :=
  match s.lanes[i.toNat]? with
  | none => .refused .noSuchLane
  | some l => if ready l then act l else waits s

end Sys2Proof.Machine
end

