-- ==== Sys2Proof/Machine/Ready.lean ====
section
/-! DEFINITION. When a step is enabled: the `require` conditions of spec/43_orchestrator.md and spec/44_lanes.md. -/

namespace Sys2Proof.Machine

/-- ORC_CHECK's condition (R203). -/
def State.checkReady (s : State) : Bool := s.fsm == .leafLevel

/-- ORC_DISPATCH's condition (R206). -/
def State.dispatchReady (s : State) : Bool := s.fsm.producing && !s.dispatched

/-- ORC_JOIN's condition (R213). -/
def State.joinReady (s : State) : Bool :=
  s.fsm.producing && s.dispatched && s.lanes.all fun l => l.done

/-- PRD_READ's condition (R233). -/
def Lane.readReady (l : Lane) : Bool :=
  l.cmdValid && l.prdPhase == .read && decide (l.prdK.toNat < l.cmdCount.toNat)

/-- PRD_PAD's condition (R234). -/
def Lane.padReady (l : Lane) : Bool := l.prdPhase == .pad

/-- PRD_SEND's condition: a full REQ blocks it (R235). -/
def Lane.sendReady (c : Config) (l : Lane) : Bool :=
  l.prdPhase == .send && decide (l.req.length < c.chanDepth)

/-- ENG_RECV's condition: an empty REQ blocks it (R237). -/
def Lane.engRecvReady (l : Lane) : Bool := l.engPhase == .idle && !l.req.isEmpty

/-- ENG_COMPRESS's condition (R238). -/
def Lane.compressReady (l : Lane) : Bool := l.engPhase == .compute

/-- ENG_SEND's condition: a full RSP blocks it (R239). -/
def Lane.engSendReady (c : Config) (l : Lane) : Bool :=
  l.engPhase == .out && decide (l.rsp.length < c.chanDepth)

/-- CNS_RECV's condition: an empty RSP blocks it (R241). -/
def Lane.recvReady (l : Lane) : Bool :=
  l.cmdValid && l.cnsPhase == .recv && decide (l.cnsK.toNat < l.cmdCount.toNat) && !l.rsp.isEmpty

/-- CNS_WRITE's condition (R242). -/
def Lane.writeReady (l : Lane) : Bool := l.cnsPhase == .write

/-- CNS_DONE's condition (R246). -/
def Lane.doneReady (l : Lane) : Bool :=
  l.cmdValid && !l.done && l.cnsPhase == .recv && l.cnsK == l.cmdCount

/-- Whether lane `i` exists and its step's condition holds. -/
def State.laneReady (s : State) (i : BitVec 8) (ready : Lane → Bool) : Bool :=
  s.lanes[i.toNat]?.any ready

/-- Whether an instruction's step is enabled. A Host access and RESET are allowed in every state (R260, R300). -/
def enabled (i : Instr) (s : State) : Bool :=
  match i with
  | .orcCheck => s.checkReady
  | .orcDispatch => s.dispatchReady
  | .orcJoin => s.joinReady
  | .prdRead lane => s.laneReady lane Lane.readReady
  | .prdPad lane => s.laneReady lane Lane.padReady
  | .prdSend lane => s.laneReady lane (Lane.sendReady s.cfg)
  | .engRecv lane => s.laneReady lane Lane.engRecvReady
  | .engCompress lane => s.laneReady lane Lane.compressReady
  | .engSend lane => s.laneReady lane (Lane.engSendReady s.cfg)
  | .cnsRecv lane => s.laneReady lane Lane.recvReady
  | .cnsWrite lane => s.laneReady lane Lane.writeReady
  | .cnsDone lane => s.laneReady lane Lane.doneReady
  | .rdCtrl | .rdStatus | .rdLeafCnt | .rdInWords | .rdOutWords | .rdConfig => true
  | .wrCtrl _ | .wrStatus | .wrLeafCnt _ | .wrInWords _ | .wrOutWords _ | .wrConfig => true
  | .rdRsvd6 | .rdRsvd7 | .rdRsvd8 | .rdRsvd9 | .rdRsvd10 => true
  | .rdRsvd11 | .rdRsvd12 | .rdRsvd13 | .rdRsvd14 | .rdRsvd15 => true
  | .wrRsvd6 | .wrRsvd7 | .wrRsvd8 | .wrRsvd9 | .wrRsvd10 => true
  | .wrRsvd11 | .wrRsvd12 | .wrRsvd13 | .wrRsvd14 | .wrRsvd15 => true
  | .reset | .hostRd _ | .hostWr _ _ => true

end Sys2Proof.Machine
end

