-- ==== Sys2Proof/Machine/Assertions.lean ====
section
/-! DEFINITION. The invariants (a) to (e) of spec/10_state.md R54, as assertions: a state in which one is false is a defect,
at which the machine stops (spec/60_exceptions.md R289). -/

namespace Sys2Proof.Machine

/-- The channels are empty and every agent of the lane is at its first phase: the lane holds no data (R54 b, e). -/
def Lane.holdsNothing (l : Lane) : Bool :=
  l.req.isEmpty && l.rsp.isEmpty && l.engPhase == .idle && l.prdPhase == .read && l.cnsPhase == .recv

/-- The pairs in flight: in REQ, in the engine, in RSP, or in DB (R54 c). -/
def Lane.inFlight (l : Lane) : Nat :=
  l.req.length + (if l.engPhase = .idle then 0 else 1) + l.rsp.length +
    (if l.cnsPhase = .write then 1 else 0)

/-- R54 (c): the counters of a lane with a command. -/
def Lane.countersOk (c : Config) (l : Lane) : Bool :=
  decide (l.cnsK.toNat ≤ l.prdK.toNat) && decide (l.prdK.toNat ≤ l.cmdCount.toNat) &&
    decide (l.prdK.toNat - l.cnsK.toNat = l.inFlight) && decide (l.inFlight ≤ 2 * c.chanDepth + 2)

/-- R54 (b), (c), (d) for one lane. -/
def Lane.assertions (c : Config) (l : Lane) : Bool :=
  (l.cmdValid || l.holdsNothing) && (!l.cmdValid || l.countersOk c) &&
    (!l.done || l.cnsK == l.cmdCount)

/-- R54 (a) to (e). -/
def State.assertions (s : State) : Bool :=
  (s.fsm.producing || (!s.dispatched && s.lanes.all fun l => !l.cmdValid && !l.done)) &&
    (s.lanes.all fun l => l.assertions s.cfg) &&
    (s.fsm != .idle || s.lanes.all Lane.holdsNothing)

end Sys2Proof.Machine
end

