-- ==== Sys2Proof/Machine/Consumer.lean ====
section
/-! DEFINITION. The meanings of the consumer's steps: spec/44_lanes.md R241, R242, R246. -/

namespace Sys2Proof.Machine

/-- The consumer with the head of RSP in DB (R241). -/
def Lane.digestTaken (l : Lane) (d : Digest) (rest : List Digest) : Lane :=
  { l with rsp := rest, buf.db := d, cnsPhase := .write }

/-- CNS_RECV (R241): an empty RSP blocks it. -/
def execCnsRecv (lane : BitVec 8) (s : State) : Result State :=
  laneStep lane s Lane.recvReady fun l =>
    match chanRecv l.rsp with
    | some (d, rest) => .next (s.setLane lane.toNat (l.digestTaken d rest))
    | none => waits s

/-- The NodeMem offset lane `i` writes next (R185, R187, R242). -/
def State.writeTarget (s : State) (i : Nat) (l : Lane) : Nat :=
  pairDst s.leaves l.cmdLevel.toNat (pairIndex s.cfg.lanes i l.cnsK.toNat)

/-- The consumer after its write (R242). -/
def Lane.nodeWritten (l : Lane) : Lane :=
  { l with cnsK := l.cnsK + 1#32, cnsPhase := .recv }

/-- CNS_WRITE (R242): all 8 words in one step (R94). -/
def execCnsWrite (lane : BitVec 8) (s : State) : Result State :=
  laneStep lane s Lane.writeReady fun l =>
    match s.memWrite .node (s.writeTarget lane.toNat l) l.buf.db.toList with
    | some t => .next (t.setLane lane.toNat l.nodeWritten)
    | none => .fault .addressOutOfRange

/-- The lane with its level committed (R246). -/
def Lane.committed (l : Lane) : Lane := { l with done := true }

/-- CNS_DONE (R246). -/
def execCnsDone (lane : BitVec 8) (s : State) : Result State :=
  laneStep lane s Lane.doneReady fun l => .next (s.setLane lane.toNat l.committed)

end Sys2Proof.Machine
end

