-- ==== Sys2Proof/Machine/Engine.lean ====
section
/-! DEFINITION. The meanings of the engine's steps: spec/44_lanes.md R237 to R239. -/

namespace Sys2Proof.Machine

/-- The engine with the head of REQ in EB (R237). -/
def Lane.blockTaken (l : Lane) (b : PaddedBlock) (rest : List PaddedBlock) : Lane :=
  { l with req := rest, buf.eb := b, engPhase := .compute }

/-- ENG_RECV (R237): an empty REQ blocks it. -/
def execEngRecv (lane : BitVec 8) (s : State) : Result State :=
  laneStep lane s Lane.engRecvReady fun l =>
    match chanRecv l.req with
    | some (b, rest) => .next (s.setLane lane.toNat (l.blockTaken b rest))
    | none => waits s

/-- The engine with the digest of EB in ED, and its datapath as the computation leaves it (R45, R238). -/
def Lane.compressed (l : Lane) : Lane :=
  { l with buf.ed := compress l.buf.eb, buf.dp := datapathAfter l.buf.eb, engPhase := .out }

/-- ENG_COMPRESS (R238): one atomic step. -/
def execEngCompress (lane : BitVec 8) (s : State) : Result State :=
  laneStep lane s Lane.compressReady fun l => .next (s.setLane lane.toNat l.compressed)

/-- The lane with ED sent on RSP (R239). -/
def Lane.digestSent (l : Lane) : Lane :=
  { l with rsp := chanSend l.rsp l.buf.ed, engPhase := .idle }

/-- ENG_SEND (R239): a full RSP blocks it. -/
def execEngSend (lane : BitVec 8) (s : State) : Result State :=
  laneStep lane s (Lane.engSendReady s.cfg) fun l => .next (s.setLane lane.toNat l.digestSent)

end Sys2Proof.Machine
end

