-- ==== Sys2Proof/Machine/HostAccess.lean ====
section
/-! DEFINITION. The meanings of the host accesses: spec/45_host_interface.md R260 to R268. No access faults, is refused or
raises an error (R290), and each is allowed in every state (R260). -/

namespace Sys2Proof.Machine

/-- `RD CTRL` (R261). -/
def execRdCtrl (s : State) : Result State := hostRead 0#4 s

/-- `RD STATUS` (R262). -/
def execRdStatus (s : State) : Result State := hostRead 1#4 s

/-- `RD LEAF_CNT` (R263). -/
def execRdLeafCnt (s : State) : Result State := hostRead 2#4 s

/-- `RD IN_WORDS` (R263). -/
def execRdInWords (s : State) : Result State := hostRead 3#4 s

/-- `RD OUT_WORDS` (R263). -/
def execRdOutWords (s : State) : Result State := hostRead 4#4 s

/-- `RD CONFIG` (R264). -/
def execRdConfig (s : State) : Result State := hostRead 5#4 s

/-- `WR CTRL`: START if `start` is 1 and the block is not BUSY, else no effect (R267). -/
def execWrCtrl (start : BitVec 1) (s : State) : Result State := hostWrite 0#4 (start.setWidth 32) s

/-- `WR STATUS`: no effect (R266). -/
def execWrStatus (s : State) : Result State := hostWrite 1#4 0#32 s

/-- `WR LEAF_CNT`: ignored while BUSY (R265). -/
def execWrLeafCnt (data : Word) (s : State) : Result State := hostWrite 2#4 data s

/-- `WR IN_WORDS`: ignored while BUSY (R265). -/
def execWrInWords (data : Word) (s : State) : Result State := hostWrite 3#4 data s

/-- `WR OUT_WORDS`: ignored while BUSY (R265). -/
def execWrOutWords (data : Word) (s : State) : Result State := hostWrite 4#4 data s

/-- `WR CONFIG`: no effect (R266). -/
def execWrConfig (s : State) : Result State := hostWrite 5#4 0#32 s

/-- `RD 6`: reads 0 (R268). -/
def execRdRsvd6 (s : State) : Result State := hostRead 6#4 s

/-- `WR 6`: no effect (R268). -/
def execWrRsvd6 (s : State) : Result State := hostWrite 6#4 0#32 s

/-- `RD 7`: reads 0 (R268). -/
def execRdRsvd7 (s : State) : Result State := hostRead 7#4 s

/-- `WR 7`: no effect (R268). -/
def execWrRsvd7 (s : State) : Result State := hostWrite 7#4 0#32 s

/-- `RD 8`: reads 0 (R268). -/
def execRdRsvd8 (s : State) : Result State := hostRead 8#4 s

/-- `WR 8`: no effect (R268). -/
def execWrRsvd8 (s : State) : Result State := hostWrite 8#4 0#32 s

/-- `RD 9`: reads 0 (R268). -/
def execRdRsvd9 (s : State) : Result State := hostRead 9#4 s

/-- `WR 9`: no effect (R268). -/
def execWrRsvd9 (s : State) : Result State := hostWrite 9#4 0#32 s

/-- `RD 10`: reads 0 (R268). -/
def execRdRsvd10 (s : State) : Result State := hostRead 10#4 s

/-- `WR 10`: no effect (R268). -/
def execWrRsvd10 (s : State) : Result State := hostWrite 10#4 0#32 s

/-- `RD 11`: reads 0 (R268). -/
def execRdRsvd11 (s : State) : Result State := hostRead 11#4 s

/-- `WR 11`: no effect (R268). -/
def execWrRsvd11 (s : State) : Result State := hostWrite 11#4 0#32 s

/-- `RD 12`: reads 0 (R268). -/
def execRdRsvd12 (s : State) : Result State := hostRead 12#4 s

/-- `WR 12`: no effect (R268). -/
def execWrRsvd12 (s : State) : Result State := hostWrite 12#4 0#32 s

/-- `RD 13`: reads 0 (R268). -/
def execRdRsvd13 (s : State) : Result State := hostRead 13#4 s

/-- `WR 13`: no effect (R268). -/
def execWrRsvd13 (s : State) : Result State := hostWrite 13#4 0#32 s

/-- `RD 14`: reads 0 (R268). -/
def execRdRsvd14 (s : State) : Result State := hostRead 14#4 s

/-- `WR 14`: no effect (R268). -/
def execWrRsvd14 (s : State) : Result State := hostWrite 14#4 0#32 s

/-- `RD 15`: reads 0 (R268). -/
def execRdRsvd15 (s : State) : Result State := hostRead 15#4 s

/-- `WR 15`: no effect (R268). -/
def execWrRsvd15 (s : State) : Result State := hostWrite 15#4 0#32 s

/-- HOST_RD: the read of register index `idx` (R260). -/
def execHostRd (idx : BitVec 4) (s : State) : Result State := hostRead idx s

/-- HOST_WR: the write of `data` to register index `idx` (R260). -/
def execHostWr (idx : BitVec 4) (data : Word) (s : State) : Result State := hostWrite idx data s

end Sys2Proof.Machine
end

