-- ==== Sys2Proof/Machine/Orchestrator.lean ====
section
/-! DEFINITION. The meanings of the orchestrator's steps: spec/43_orchestrator.md R203, R206, R213. -/

namespace Sys2Proof.Machine

/-- The state after a passing check: ROOT where `K = 1`, else INTERNAL_LEVEL[0] (R203). -/
def State.checkPassed (s : State) : State :=
  { s with
    curLevel := 0#5
    dispatched := false
    fsm := if Nat.log2 s.leaves = 1 then .root else .internalLevel }

/-- ORC_CHECK (R203): the first failing check raises its error, a passing check enters the first level. -/
def execOrcCheck (s : State) : Result State :=
  if s.checkReady then
    if s.check = .none then .next s.checkPassed else .next (s.raiseError s.check)
  else waits s

/-- Lane `i` with the command for level `s.curLevel` (R206). -/
def State.commandLane (s : State) (i : Nat) (l : Lane) : Lane :=
  { l with
    cmdValid := true
    cmdLevel := s.curLevel
    cmdCount := BitVec.ofNat 32 (lanePairs (nodeCount s.leaves s.curLevel.toNat) s.cfg.lanes i)
    prdK := 0#32
    prdPhase := .read
    cnsK := 0#32
    cnsPhase := .recv
    done := false }

/-- ORC_DISPATCH (R206): one atomic step for all lanes. -/
def execOrcDispatch (s : State) : Result State :=
  if s.dispatchReady then
    .next { s with lanes := s.lanes.mapIdx s.commandLane, dispatched := true }
  else waits s

/-- The state and level that follow the join of the current level (R202, R213). -/
def State.nextLevel (s : State) : Fsm × BitVec 5 :=
  if s.fsm = .internalLevel then
    if s.curLevel.toNat + 1 < roundsOf s.leaves then (.internalLevel, s.curLevel + 1#5)
    else (.root, BitVec.ofNat 5 (roundsOf s.leaves))
  else (.done, s.curLevel)

/-- A lane released by the barrier (R213). -/
def Lane.released (l : Lane) : Lane := { l with cmdValid := false, done := false }

/-- ORC_JOIN, the level barrier (R213). -/
def execOrcJoin (s : State) : Result State :=
  if s.joinReady then
    .next { s with
      lanes := s.lanes.map Lane.released
      dispatched := false
      fsm := s.nextLevel.1
      curLevel := s.nextLevel.2 }
  else waits s

end Sys2Proof.Machine
end

