-- ==== Sys2Proof/Machine/Producer.lean ====
section
/-! DEFINITION. The meanings of the producer's steps: spec/44_lanes.md R233 to R235. -/

namespace Sys2Proof.Machine

/-- The pair lane `i` reads next: its space and offset (R184, R187, R233). -/
def State.readSource (s : State) (i : Nat) (l : Lane) : Space × Nat :=
  pairSrc s.leaves l.cmdLevel.toNat (pairIndex s.cfg.lanes i l.prdK.toNat)

/-- The producer with a pair read into PB (R233). -/
def Lane.pairRead (l : Lane) (p : SiblingPair) : Lane :=
  { l with buf.pb := p, prdPhase := .pad }

/-- PRD_READ (R233). -/
def execPrdRead (lane : BitVec 8) (s : State) : Result State :=
  laneStep lane s Lane.readReady fun l =>
    match s.memRead (s.readSource lane.toNat l).1 (s.readSource lane.toNat l).2 16 with
    | some p => .next (s.setLane lane.toNat (l.pairRead p))
    | none => .fault .addressOutOfRange

/-- The producer with the padded pair in BB (R234). -/
def Lane.padded (l : Lane) : Lane :=
  { l with buf.bb := pad l.buf.pb, prdPhase := .send }

/-- PRD_PAD (R234). -/
def execPrdPad (lane : BitVec 8) (s : State) : Result State :=
  laneStep lane s Lane.padReady fun l => .next (s.setLane lane.toNat l.padded)

/-- The lane with BB sent on REQ (R235). -/
def Lane.blockSent (l : Lane) : Lane :=
  { l with req := chanSend l.req l.buf.bb, prdK := l.prdK + 1#32, prdPhase := .read }

/-- PRD_SEND (R235): a full REQ blocks it. -/
def execPrdSend (lane : BitVec 8) (s : State) : Result State :=
  laneStep lane s (Lane.sendReady s.cfg) fun l => .next (s.setLane lane.toNat l.blockSent)

end Sys2Proof.Machine
end

