-- ==== Sys2Proof/Machine/ResetStep.lean ====
section
/-! DEFINITION. The meaning of RESET: spec/70_reset_and_hazards.md R300 to R303. -/

namespace Sys2Proof.Machine

/-- RESET: allowed in every state, one atomic step (R300). -/
def execReset (s : State) : Result State := .next s.resetBlock

end Sys2Proof.Machine
end

