-- ==== Sys2Proof/Machine/Dispatch.lean ====
section
/-! DEFINITION. One arm per instruction, each one call of its meaning. -/

namespace Sys2Proof.Machine

def exec (i : Instr) (s : State) : Host.Outcome State Fault Refusal :=
  match i with
  | .rdCtrl => Sys2Proof.Machine.execRdCtrl s
  | .rdStatus => Sys2Proof.Machine.execRdStatus s
  | .rdLeafCnt => Sys2Proof.Machine.execRdLeafCnt s
  | .rdInWords => Sys2Proof.Machine.execRdInWords s
  | .rdOutWords => Sys2Proof.Machine.execRdOutWords s
  | .rdConfig => Sys2Proof.Machine.execRdConfig s
  | .wrCtrl start => Sys2Proof.Machine.execWrCtrl start s
  | .wrStatus => Sys2Proof.Machine.execWrStatus s
  | .wrLeafCnt data => Sys2Proof.Machine.execWrLeafCnt data s
  | .wrInWords data => Sys2Proof.Machine.execWrInWords data s
  | .wrOutWords data => Sys2Proof.Machine.execWrOutWords data s
  | .wrConfig => Sys2Proof.Machine.execWrConfig s
  | .rdRsvd6 => Sys2Proof.Machine.execRdRsvd6 s
  | .wrRsvd6 => Sys2Proof.Machine.execWrRsvd6 s
  | .rdRsvd7 => Sys2Proof.Machine.execRdRsvd7 s
  | .wrRsvd7 => Sys2Proof.Machine.execWrRsvd7 s
  | .rdRsvd8 => Sys2Proof.Machine.execRdRsvd8 s
  | .wrRsvd8 => Sys2Proof.Machine.execWrRsvd8 s
  | .rdRsvd9 => Sys2Proof.Machine.execRdRsvd9 s
  | .wrRsvd9 => Sys2Proof.Machine.execWrRsvd9 s
  | .rdRsvd10 => Sys2Proof.Machine.execRdRsvd10 s
  | .wrRsvd10 => Sys2Proof.Machine.execWrRsvd10 s
  | .rdRsvd11 => Sys2Proof.Machine.execRdRsvd11 s
  | .wrRsvd11 => Sys2Proof.Machine.execWrRsvd11 s
  | .rdRsvd12 => Sys2Proof.Machine.execRdRsvd12 s
  | .wrRsvd12 => Sys2Proof.Machine.execWrRsvd12 s
  | .rdRsvd13 => Sys2Proof.Machine.execRdRsvd13 s
  | .wrRsvd13 => Sys2Proof.Machine.execWrRsvd13 s
  | .rdRsvd14 => Sys2Proof.Machine.execRdRsvd14 s
  | .wrRsvd14 => Sys2Proof.Machine.execWrRsvd14 s
  | .rdRsvd15 => Sys2Proof.Machine.execRdRsvd15 s
  | .wrRsvd15 => Sys2Proof.Machine.execWrRsvd15 s
  | .reset => Sys2Proof.Machine.execReset s
  | .hostRd idx => Sys2Proof.Machine.execHostRd idx s
  | .hostWr idx data => Sys2Proof.Machine.execHostWr idx data s
  | .orcCheck => Sys2Proof.Machine.execOrcCheck s
  | .orcDispatch => Sys2Proof.Machine.execOrcDispatch s
  | .orcJoin => Sys2Proof.Machine.execOrcJoin s
  | .prdRead lane => Sys2Proof.Machine.execPrdRead lane s
  | .prdPad lane => Sys2Proof.Machine.execPrdPad lane s
  | .prdSend lane => Sys2Proof.Machine.execPrdSend lane s
  | .engRecv lane => Sys2Proof.Machine.execEngRecv lane s
  | .engCompress lane => Sys2Proof.Machine.execEngCompress lane s
  | .engSend lane => Sys2Proof.Machine.execEngSend lane s
  | .cnsRecv lane => Sys2Proof.Machine.execCnsRecv lane s
  | .cnsWrite lane => Sys2Proof.Machine.execCnsWrite lane s
  | .cnsDone lane => Sys2Proof.Machine.execCnsDone lane s

end Sys2Proof.Machine
end

