-- ==== Sys2Proof/Machine/Events.lean ====
section
/-! DEFINITION. The events of spec/30_encoding.md R124: what the history records of a step. -/

namespace Sys2Proof.Machine

/-- The data of the rule of a step of lane `i`, none where the build has no such lane. -/
def State.laneData (s : State) (i : BitVec 8) (data : Lane → EventData) : EventData :=
  match s.lanes[i.toNat]? with
  | some l => data l
  | none => .none

/-- What PRD_READ moves: the source and the words of the lane's next pair (R233). -/
def State.readData (s : State) (i : Nat) (l : Lane) : EventData :=
  match s.memRead (s.readSource i l).1 (s.readSource i l).2 16 with
  | some p => .pairRead (s.readSource i l).1 (s.readSource i l).2 p
  | none => .none

/-- The block at the head of REQ (R237). -/
def Lane.requestData (l : Lane) : EventData :=
  match chanRecv l.req with
  | some (b, _) => .block b
  | none => .none

/-- The digest at the head of RSP (R241). -/
def Lane.responseData (l : Lane) : EventData :=
  match chanRecv l.rsp with
  | some (d, _) => .digest d
  | none => .none

/-- The data of the rule of instruction `i`'s step (R124), from the state the step starts from and the DATA field of the
frame it came in. DESIGN CHOICE (notes/assumptions/10.md). -/
def eventData (i : Instr) (data : Word) (s : State) : EventData :=
  match i.kind with
  | .reset => .none
  | .hostRd => .access i.hostFields.1 (s.regRead i.hostFields.1)
  | .hostWr => .access i.hostFields.1 data
  | .orcCheck => .check s.check
  | .orcDispatch => .commands s.curLevel ((s.lanes.mapIdx s.commandLane).map fun l => l.cmdCount)
  | .orcJoin => .entered s.nextLevel.1 s.nextLevel.2
  | .prdRead => s.laneData (i.lane?.getD 0#8) (s.readData (i.lane?.getD 0#8).toNat)
  | .prdPad => s.laneData (i.lane?.getD 0#8) fun l => .block (pad l.buf.pb)
  | .prdSend => s.laneData (i.lane?.getD 0#8) fun l => .block l.buf.bb
  | .engRecv => s.laneData (i.lane?.getD 0#8) Lane.requestData
  | .engCompress => s.laneData (i.lane?.getD 0#8) fun l => .digest (compress l.buf.eb)
  | .engSend => s.laneData (i.lane?.getD 0#8) fun l => .digest l.buf.ed
  | .cnsRecv => s.laneData (i.lane?.getD 0#8) Lane.responseData
  | .cnsWrite => s.laneData (i.lane?.getD 0#8) fun l =>
      .nodeWritten (s.writeTarget (i.lane?.getD 0#8).toNat l) l.buf.db
  | .cnsDone => s.laneData (i.lane?.getD 0#8) fun l => .committed l.cmdLevel l.cmdCount

/-- The event that taking `i`'s step records (R124). -/
def eventAt (i : Instr) (data : Word) (s : State) : Event where
  code := i.kind.code
  lane := i.lane?.getD 0#8
  data := eventData i data s

end Sys2Proof.Machine
end

