-- ==== Sys2Proof/Machine/HostTransfer.lean ====
section
/-! DEFINITION. The Host's accesses to LeafMem and NodeMem, the transfer layer's: spec/45_host_interface.md R270 to R272,
spec/20_memory.md R85, spec/30_encoding.md R127 (`LOAD`). They are no rows of the opcode table; `step` runs them from the
inputs. -/

namespace Sys2Proof.Machine

/-- The Host writes words at an offset of a memory (R127 `LOAD`). While BUSY the model gives the Host no such step
(R271). -/
def hostStore (sp : Space) (a : Nat) (ws : List Word) (s : State) : Result State :=
  if s.busy then .refused .hostMemoryWhileBusy
  else
    match s.memWrite sp a ws with
    | some t => .next t
    | none => .fault .addressOutOfRange

/-- The Host reads `n` words at an offset of a memory (R272). While BUSY the model gives the Host no such step
(R271). -/
def hostLoad (sp : Space) (a n : Nat) (s : State) : Result State :=
  if s.busy then .refused .hostMemoryWhileBusy
  else
    match s.memRead sp a n with
    | some ws => .next { s with xferData := ws.toList }
    | none => .fault .addressOutOfRange

end Sys2Proof.Machine
end

