-- ==== Sys2Proof/Machine/Schedule.lean ====
section
/-! DEFINITION. What a step fetches, and the turns that no input decides: spec/00_scope.md R14, spec/30_encoding.md R124,
spec/70_reset_and_hazards.md R321. -/

namespace Sys2Proof.Machine

/-- The state from which a fetched instruction runs: the rest of the inputs remain, and if its step is enabled its event
is recorded, with the DATA field of the frame it came in (R124; notes/assumptions/10.md). -/
def State.fetched (s : State) (i : Instr) (data : Word) (rest : List Input) : State :=
  { s with
    inputs := rest
    history := if enabled i s then eventAt i data s :: s.history else s.history }

/-- The nine steps of a lane, in the order of V8's schedule S0. -/
def laneSteps (lane : BitVec 8) : List Instr :=
  [.prdRead lane, .prdPad lane, .prdSend lane, .engRecv lane, .engCompress lane, .engSend lane,
    .cnsRecv lane, .cnsWrite lane, .cnsDone lane]

/-- Every step of a block agent of the build: ORC, then lane 0, 1, and so on (R14). -/
def blockSteps (c : Config) : List Instr :=
  [.orcCheck, .orcDispatch, .orcJoin] ++
    (List.range c.lanes).flatMap fun i => laneSteps (BitVec.ofNat 8 i)

/-- The block steps that are enabled. -/
def State.enabledSteps (s : State) : List Instr :=
  (blockSteps s.cfg).filter fun i => enabled i s

/-- The element of a non-empty list that a number selects. -/
def pick (x : Instr) (rest : List Instr) (n : Nat) : Instr :=
  ((x :: rest)[n % (rest.length + 1)]?).getD x

/-- A turn that no input decides: any enabled step of any block agent may be taken (R14), and the free scheduler says
which. With none enabled the block rests as it is until the Host acts (R295, R300). -/
def State.freeTurn (s : State) : Result State :=
  match s.enabledSteps with
  | [] => .next s
  | x :: rest =>
    exec (pick x rest (Config.schedule s.turn))
      ({ s with turn := s.turn + 1 }.fetched (pick x rest (Config.schedule s.turn)) 0#32 s.inputs)

/-- The first enabled step in S0's order (95_test_vectors.md V8). -/
def State.firstEnabled (s : State) : Option Instr :=
  (blockSteps s.cfg).find? fun i => enabled i s

/-- A decoded frame is run; a rejected one is refused by name. -/
def State.runFrame (s : State) (f : Frame) (rest : List Input) : Result State :=
  match decode f with
  | .ok i => exec i (s.fetched i f.data rest)
  | .error e => .refused (.undecodable e)

/-- One input, or a free turn where there is none. -/
def State.advance (s : State) : Result State :=
  match s.inputs with
  | [] => s.freeTurn
  | .frame f :: rest => s.runFrame f rest
  | .store sp a ws :: rest => hostStore sp a ws { s with inputs := rest }
  | .load sp a n :: rest => hostLoad sp a n { s with inputs := rest }

end Sys2Proof.Machine
end

