-- ==== Sys2Proof/Machine/Step.lean ====
section
/-! DEFINITION. One step of the machine, and where it fetches. -/

namespace Sys2Proof.Machine

/-- One step: an assertion failure in a state that breaks R54 (R289), else the next input or a free turn. -/
def step (s : State) : Host.Outcome State Fault Refusal :=
  if s.assertions then s.advance else .fault .assertionFailed

/-- `s` with the table's word as the next input: the very next step fetches and runs it. -/
def State.withFetchWord (s : State) (nbits w : Nat) : State :=
  { s with inputs := .frame (tableFrame nbits w) :: s.inputs }

end Sys2Proof.Machine
end

