-- ==== Sys2Proof/Machine/HostProgram.lean ====
section
/-! DEFINITION. The Host notation's pseudo-operations: spec/30_encoding.md R128. They are Host programs over `step`. -/

namespace Sys2Proof.Machine

/-- One access issued by the Host: it is the next input, and one step runs it. -/
def issue (i : Instr) (s : State) : Result State :=
  step { s with inputs := .frame (encode i) :: s.inputs }

/-- Accesses issued one after the other. -/
def issueAll (is : List Instr) (s : State) : Result State :=
  match is with
  | [] => .next s
  | i :: rest =>
    match issue i s with
    | .next t => issueAll rest t
    | .fault r => .fault r
    | .refused r => .refused r

/-- The four writes with which `RUN L` begins (R128), each value reduced to the 32 bits that DATA has.
DESIGN CHOICE (notes/assumptions/20.md): R128 does not say what `RUN L` writes where `8·(L−1)`, `8·L` or `L` is no 32-bit
word. The model writes OUT_WORDS 0 for `L = 0`, and the values modulo `2^32` from `L = 2^29` on. -/
def runWrites (L : Nat) : List Instr :=
  [.wrLeafCnt (BitVec.ofNat 32 L), .wrInWords (BitVec.ofNat 32 (8 * L)),
    .wrOutWords (BitVec.ofNat 32 (8 * (L - 1))), .wrCtrl 1#1]

/-- `WAIT`: `RD STATUS` until bit 0 (BUSY) of the result is 0 (R128), with one step of the block between two polls and
at most `n` polls after the first. -/
def waitDone (n : Nat) (s : State) : Result State :=
  match issue .rdStatus s with
  | .fault r => .fault r
  | .refused r => .refused r
  | .next t =>
    if t.rdata.getLsbD 0 then
      match n with
      | 0 => .next t
      | m + 1 =>
        match step t with
        | .next u => waitDone m u
        | .fault r => .fault r
        | .refused r => .refused r
    else .next t

/-- `RUN L` (R128), with at most `n` polls after the first. -/
def runLeaves (L n : Nat) (s : State) : Result State :=
  match issueAll (runWrites L) s with
  | .next t => waitDone n t
  | .fault r => .fault r
  | .refused r => .refused r

end Sys2Proof.Machine
end

