-- ==== Sys2Proof/Safety.lean ====
section
/-! DEFINITION. The terms in which claims are made: runs under a schedule, the invariant of every reachable state, the tree
a run computes, the number of steps it has left, and an engine that stores or rolls its schedules. -/

namespace Sys2Proof

/-- Whether an instruction is a START: a write to CTRL with DATA bit 0 set (R267). -/
def Instr.isStart : Instr → Bool
  | .wrCtrl start => start == 1#1
  | .hostWr idx data => idx == 0#4 && data.getLsbD 0
  | _ => false

end Sys2Proof

namespace Sys2Proof.Machine

/-! ### Runs -/

/-- The steps of a schedule taken one after the other. A schedule is any list of instructions: one interleaving of the
agents (R14). -/
def runSchedule (is : List Instr) (s : State) : Result State :=
  match is with
  | [] => .next s
  | i :: rest =>
    match exec i s with
    | .next t => runSchedule rest t
    | .fault r => .fault r
    | .refused r => .refused r

/-- Whether every step of a schedule is enabled when its turn comes. -/
def allEnabled (is : List Instr) (s : State) : Bool :=
  match is with
  | [] => true
  | i :: rest =>
    enabled i s &&
      match exec i s with
      | .next t => allEnabled rest t
      | .fault _ => false
      | .refused _ => false

/-- Every instruction of the schedule is a step of a block agent of the build. -/
abbrev BlockSchedule (c : Config) (is : List Instr) : Prop :=
  ∀ i ∈ is, i.isBlock = true ∧ i.wf c = true

/-- The steps that may interleave in a run: those of the build's agents and the Host's, but no START and no RESET (R224:
"provided the Host makes no WR CTRL START and no RESET during the run"). -/
abbrev RunSchedule (c : Config) (is : List Instr) : Prop :=
  ∀ i ∈ is, i.wf c = true ∧ i.isStart = false ∧ i ≠ .reset

/-- The NodeMem offset that an instruction's step writes a Node to in a state, none for every other step and for a
CNS_WRITE that is not enabled (R242). -/
def writeOffset? (i : Instr) (s : State) : Option Nat :=
  match i with
  | .cnsWrite lane =>
    match s.lanes[lane.toNat]? with
    | some l => if l.writeReady then some (s.writeTarget lane.toNat l) else none
    | none => none
  | _ => none

/-- The NodeMem offsets that the steps of a schedule write Nodes to, in order. -/
def writtenOffsets (is : List Instr) (s : State) : List Nat :=
  match is with
  | [] => []
  | i :: rest =>
    (writeOffset? i s).toList ++
      match exec i s with
      | .next t => writtenOffsets rest t
      | .fault _ => []
      | .refused _ => []

/-! ### The invariant -/

/-- A lane that keeps R54 (b), (c), (d), its channel bounds (R47) and the producer's own bound (R44). -/
abbrev Lane.Ok (c : Config) (l : Lane) : Prop :=
  (l.cmdValid = false → l.holdsNothing = true ∧ l.done = false) ∧
  (l.cmdValid = true →
    l.prdK.toNat = l.cnsK.toNat + l.inFlight ∧ l.prdK.toNat ≤ l.cmdCount.toNat) ∧
  (l.prdPhase ≠ .read → l.prdK.toNat < l.cmdCount.toNat) ∧
  (l.done = true → l.cnsK = l.cmdCount) ∧
  l.req.length ≤ c.chanDepth ∧ l.rsp.length ≤ c.chanDepth

/-- Every lane of the build is there and keeps its invariants. -/
abbrev State.LanesOk (s : State) : Prop :=
  s.lanes.length = s.cfg.lanes ∧ ∀ l ∈ s.lanes, Lane.Ok s.cfg l

/-- Both memories are in canonical form and list no offset their space does not have. -/
abbrev State.MemoriesOk (s : State) : Prop :=
  Memory.wf s.leafMem = true ∧ Memory.wf s.nodeMem = true ∧
  (∀ p ∈ s.leafMem, p.1 < Space.size s.cfg .leaf) ∧ (∀ p ∈ s.nodeMem, p.1 < Space.size s.cfg .node)

/-- The orchestrator: commands are out exactly while a level is dispatched (R40, R43, R54 a), each lane's command is
that of the current level (R206), levels are produced only after a passing check (R203, R205), `cur_level` is as R39
says, and an error code is held exactly in ERROR (R42). -/
abbrev State.OrcOk (s : State) : Prop :=
  (s.fsm.producing = false → s.dispatched = false) ∧
  (∀ l ∈ s.lanes, l.cmdValid = s.dispatched) ∧
  (s.dispatched = true → ∀ p ∈ s.lanes.zipIdx,
    p.1.cmdLevel = s.curLevel ∧
    p.1.cmdCount.toNat = lanePairs (nodeCount s.leaves s.curLevel.toNat) s.cfg.lanes p.2) ∧
  (s.fsm.producing = true → s.check = .none) ∧
  (s.fsm = .internalLevel → s.curLevel.toNat < roundsOf s.leaves) ∧
  (s.fsm = .root → s.curLevel.toNat = roundsOf s.leaves) ∧
  (s.fsm = .idle ∨ s.fsm = .leafLevel ∨ s.fsm = .error → s.curLevel = 0#5) ∧
  (s.fsm = .error ↔ s.errCode ≠ .none)

/-- The invariant of every state reachable from reset. -/
abbrev State.Inv (s : State) : Prop :=
  s.cfg.wf = true ∧ s.LanesOk ∧ s.MemoriesOk ∧ s.OrcOk

/-! ### The FSM's transitions -/

/-- The state, level and barrier flag of the orchestrator. -/
def State.orcIs (s : State) (f : Fsm) (r : BitVec 5) (d : Bool) : Prop :=
  s.fsm = f ∧ s.curLevel = r ∧ s.dispatched = d

/-- The rows of R202, top to bottom: instruction `i` takes the orchestrator from its state in `s` to that in `t`. -/
def fsmRow (i : Instr) (s t : State) : Prop :=
  (i.isStart = true ∧ (s.fsm = .idle ∨ s.fsm = .done ∨ s.fsm = .error) ∧ t.orcIs .leafLevel 0#5 false) ∨
  (i = .orcCheck ∧ s.fsm = .leafLevel ∧ s.check ≠ .none ∧ t.orcIs .error 0#5 false) ∨
  (i = .orcCheck ∧ s.fsm = .leafLevel ∧ s.check = .none ∧ Nat.log2 s.leaves = 1 ∧ t.orcIs .root 0#5 false) ∨
  (i = .orcCheck ∧ s.fsm = .leafLevel ∧ s.check = .none ∧ 2 ≤ Nat.log2 s.leaves ∧ t.orcIs .internalLevel 0#5 false) ∨
  (i = .orcDispatch ∧ (s.fsm = .internalLevel ∨ s.fsm = .root) ∧ s.dispatched = false ∧
    t.orcIs s.fsm s.curLevel true) ∨
  (i = .orcJoin ∧ s.fsm = .internalLevel ∧ s.dispatched = true ∧ s.curLevel.toNat + 1 < roundsOf s.leaves ∧
    t.orcIs .internalLevel (s.curLevel + 1#5) false) ∨
  (i = .orcJoin ∧ s.fsm = .internalLevel ∧ s.dispatched = true ∧ ¬ s.curLevel.toNat + 1 < roundsOf s.leaves ∧
    t.orcIs .root (BitVec.ofNat 5 (roundsOf s.leaves)) false) ∨
  (i = .orcJoin ∧ s.fsm = .root ∧ s.dispatched = true ∧ t.orcIs .done s.curLevel false) ∨
  (i = .reset ∧ t.orcIs .idle 0#5 false)

/-! ### The tree (R189) -/

/-- The Node at an offset of a memory. -/
def Memory.nodeAt (m : Memory) (a : Nat) : Node := Memory.readWords m a 8

/-- The Nodes over the leaves of `m`: height 0 is leaf `j`, height `r + 1` is Node `j` of level `r` (R189). -/
def treeNode (m : Memory) (height j : Nat) : Node :=
  match height with
  | 0 => Memory.nodeAt m (leafAddr j)
  | r + 1 => hashPair (treeNode m r (2 * j) ++ treeNode m r (2 * j + 1))

/-- NodeMem holds the whole tree of `L` leaves of `leaf` (R189, R223). -/
def TreeStored (leaf node : Memory) (L : Nat) : Prop :=
  ∀ r < Nat.log2 L, ∀ j < nodeCount L r, Memory.nodeAt node (nodeAddr L r j) = treeNode leaf (r + 1) j

/-! ### The steps a run has left (R250) -/

/-- `1 + 2K + 8(L−1) + N·K`, the number of block steps from START to DONE (R250, R320). -/
def runLength (N L : Nat) : Nat :=
  1 + 2 * Nat.log2 L + 8 * (L - 1) + N * Nat.log2 L

/-- How many of its eight steps per pair a lane has taken at its level. -/
def Lane.pairSteps (l : Lane) : Nat :=
  let written := l.cnsK.toNat
  let received := written + (if l.cnsPhase = .write then 1 else 0)
  let answered := received + l.rsp.length
  let computed := answered + (if l.engPhase = .out then 1 else 0)
  let taken := answered + (if l.engPhase = .idle then 0 else 1)
  let sent := l.prdK.toNat
  let padded := sent + (if l.prdPhase = .send then 1 else 0)
  let read := sent + (if l.prdPhase = .read then 0 else 1)
  written + received + answered + computed + taken + sent + padded + read

/-- The steps a lane has left at its level: eight for each pair, and its CNS_DONE. -/
def Lane.stepsLeft (l : Lane) : Nat :=
  8 * l.cmdCount.toNat - l.pairSteps + (if l.done then 0 else 1)

/-- The block steps left in the run: the levels above the current one, and what is left of the current one. -/
def State.stepsLeft (s : State) : Nat :=
  if s.fsm = .leafLevel then
    if s.check = .none then runLength s.cfg.lanes s.leaves else 1
  else if s.fsm.producing then
    (roundsOf s.leaves - s.curLevel.toNat) * (2 + s.cfg.lanes) +
      8 * (nodeCount s.leaves s.curLevel.toNat - 1) +
      (if s.dispatched then 1 + (s.lanes.map Lane.stepsLeft).sum
        else 2 + s.cfg.lanes + 8 * nodeCount s.leaves s.curLevel.toNat)
  else 0

/-! ### A second engine design (R163, R169) -/

/-- A window of the message schedule: `W[t..t+15]` before round `t`. -/
def rollWindow (w : Vector Word 16) : Vector Word 16 :=
  Vector.ofFn fun i : Fin 16 =>
    if h : i.val + 1 < 16 then w[i.val + 1]
    else smallSigma1 w[14] + w[9] + smallSigma0 w[1] + w[0]

/-- The round with the schedule word given (R162). -/
def roundWith (x : Word) (t : Fin 64) (r : WorkRegs) : WorkRegs :=
  let t1 := r.h + bigSigma1 r.e + shaCh r.e r.f r.g + roundK t + x
  let t2 := bigSigma0 r.a + shaMaj r.a r.b r.c
  { a := t1 + t2, b := r.a, c := r.b, d := r.c, e := r.d + t1, f := r.e, g := r.f, h := r.g }

/-- `n` rounds that compute each schedule word just before its round, in a window of 16 words (R163: "An implementation may
compute W[t] at any time before round t"). -/
def rollingRounds (m : MessageBlock) (r : WorkRegs) : (n : Nat) → n ≤ 64 → Vector Word 16 × WorkRegs
  | 0, _ => (m, r)
  | n + 1, h =>
    let q := rollingRounds m r n (Nat.le_of_succ_le h)
    (rollWindow q.1, roundWith q.1[0] ⟨n, h⟩ q.2)

/-- The stored schedule of the constant second block (R169; 95_test_vectors.md CS1). -/
def storedSchedule : Schedule := #v[
  0x80000000, 0x00000000, 0x00000000, 0x00000000, 0x00000000, 0x00000000, 0x00000000, 0x00000000,
  0x00000000, 0x00000000, 0x00000000, 0x00000000, 0x00000000, 0x00000000, 0x00000000, 0x00000200,
  0x80000000, 0x01400000, 0x00205000, 0x00005088, 0x22000800, 0x22550014, 0x05089742, 0xa0000020,
  0x5a880000, 0x005c9400, 0x0016d49d, 0xfa801f00, 0xd33225d0, 0x11675959, 0xf6e6bfda, 0xb30c1549,
  0x08b2b050, 0x9d7c4c27, 0x0ce2a393, 0x88e6e1ea, 0xa52b4335, 0x67a16f49, 0xd732016f, 0x4eeb2e91,
  0x5dbf55e5, 0x8eee2335, 0xe2bc5ec2, 0xa83f4394, 0x45ad78f7, 0x36f3d0cd, 0xd99c05e8, 0xb0511dc7,
  0x69bc7ac4, 0xbd11375b, 0xe3ba71e5, 0x3b209ff2, 0x18feee17, 0xe25ad9e7, 0x13375046, 0x0515089d,
  0x4f0d0f04, 0x2627484e, 0x310128d2, 0xc668b434, 0x420841cc, 0x62d311b8, 0xe59ba771, 0x85a7a484]

/-- `hash_pair` by an engine that rolls the first block's schedule and stores the second block's (R163, R169). -/
def hashPairStored (p : SiblingPair) : Digest :=
  let h1 := feedForward iv (rollingRounds p (loadRegs iv) 64 (Nat.le_refl 64)).2
  feedForward h1 (shaRounds storedSchedule (loadRegs h1) 64 (Nat.le_refl 64))

end Sys2Proof.Machine
end

