-- ==== Sys2Proof/Certificates/Slice0/Obligations.lean ====
section
/-! DEFINITION. The statements for the provers. -/

open Sys2Proof Sys2Proof.Machine

/-! ### Encoding -/

/-- Decoding the frame of any instruction gives that instruction back, with every operand at every value (R117, R120,
R123, R124). The layout of an event's lane and data is the model's choice (log 2). -/
def Obligations.DecodeInvertsEncode : Prop :=
  ∀ i : Instr, decode (encode i) = .ok i

/-- Every 37-bit access decodes, and the instruction it decodes to does what the Host's step of that direction does to
that index with that data (R123, R260). Its event holds the step's code, lane 0 and, by the model's choice of an event's
data (log 10), the index with the whole DATA of a write or the word that a read returns. -/
def Obligations.EveryAccessIsAHostStep : Prop :=
  ∀ (rw : BitVec 1) (idx : BitVec 4) (data : Word), ∃ i : Instr,
    decode (.access (0#3 ++ accessWord rw idx data)) = .ok i ∧
    i.kind = (if rw = 1#1 then .hostWr else .hostRd) ∧
    ∀ s : State, ∃ t : State, exec i s = .next t ∧
      exec (if rw = 1#1 then .hostWr idx data else .hostRd idx) s = .next t ∧
      eventAt i (Frame.access (0#3 ++ accessWord rw idx data)).data s =
        { code := if rw = 1#1 then 0x02#8 else 0x01#8
          lane := 0#8
          data := .access idx (if rw = 1#1 then data else t.rdata) }

/-- A step code outside R124 names no step, and an event that decodes names the step kind and the lane its fields say
(R124, R125, I18); an event that is recorded names its step's kind by its code, and its lane. Where the lane lies in an
event word is log 2's. -/
def Obligations.EventCodesNameTheirSteps : Prop :=
  (∀ w : BitVec 56,
    (w.extractLsb' 0 8 ∉ [0x00#8, 0x01#8, 0x02#8, 0x10#8, 0x11#8, 0x12#8, 0x20#8, 0x21#8, 0x22#8, 0x30#8, 0x31#8,
        0x32#8, 0x40#8, 0x41#8, 0x42#8] →
      decode (.event w) = .error .reservedStepCode) ∧
    ∀ i : Instr, decode (.event w) = .ok i →
      i.kind.code = w.extractLsb' 0 8 ∧ ∀ lane, i.lane? = some lane → lane = w.extractLsb' 8 8) ∧
  ∀ (i : Instr) (data : Word) (s : State),
    StepKind.ofCode (eventAt i data s).code = some i.kind ∧
    (∀ lane, i.lane? = some lane → (eventAt i data s).lane = lane) ∧
    (i.lane? = none → (eventAt i data s).lane = 0#8)

/-- An event word that decodes, but for a HOST_RD whose data is ignored, is the very word its instruction encodes to: no
bit of it is dropped (R124; the layout is log 2's). -/
def Obligations.EventWordsAreExact : Prop :=
  ∀ (w : BitVec 56) (i : Instr), decode (.event w) = .ok i → i.kind ≠ .hostRd → eventWord i = w

/-- Words written out from the encodings decode to the instructions they stand for (R123, R124, V9). That the bare code of
a lane step names lane 0 is the model's choice (log 2, log 7). -/
def Obligations.WrittenOutWordsDecode : Prop :=
  decodeTableWord 40 0x0100000000 = some .rdStatus ∧
  decodeTableWord 40 0x1000000001 = some (.wrCtrl 1#1) ∧
  decodeTableWord 40 0x1200000004 = some (.wrLeafCnt 4#32) ∧
  decodeTableWord 40 0x1f12345678 = some .wrRsvd15 ∧
  decodeTableWord 8 0x00 = some .reset ∧
  decodeTableWord 8 0x12 = some .orcJoin ∧
  decodeTableWord 8 0x22 = some (.prdSend 0#8) ∧
  decodeTableWord 8 0x31 = some (.engCompress 0#8) ∧
  decodeTableWord 8 0x41 = some (.cnsWrite 0#8) ∧
  decodeTableWord 8 0x43 = none

/-! ### Padding, compression, bytes -/

/-- R143: words 0 to 15 the input, word 16 0x80000000, words 17 to 30 zero, word 31 0x00000200. -/
def Obligations.PaddingLayout : Prop :=
  ∀ p : SiblingPair,
    (∀ w (h : w < 16), (pad p)[w] = p[w]) ∧ (pad p)[16] = 0x80000000#32 ∧
    (∀ w (h : w < 31), 17 ≤ w → (pad p)[w] = 0#32) ∧ (pad p)[31] = 0x00000200#32

/-- R150, R151, R153 to R158: the primitive operations, bit by bit, with R150's corner cases. Bits at and above 32 read as
0, which is SHR's zero fill. -/
def Obligations.PrimitiveOperationsBitByBit : Prop :=
  (∀ (x : Word) (n : Nat), 0 < n → n < 32 →
    rotr x n = (x >>> n) ||| (x <<< (32 - n)) ∧
    ∀ k < 32, (rotr x n).getLsbD k = x.getLsbD ((k + n) % 32) ∧ (shr x n).getLsbD k = x.getLsbD (k + n)) ∧
  (∀ n : Nat, 0 < n → n < 32 → rotr 0#32 n = 0#32 ∧ rotr 0xFFFFFFFF#32 n = 0xFFFFFFFF#32) ∧
  rotr 0x00000001#32 1 = 0x80000000#32 ∧
  ∀ (x y z : Word) (k : Nat), k < 32 →
    (shaCh x y z).getLsbD k = (if x.getLsbD k then y.getLsbD k else z.getLsbD k) ∧
    (shaMaj x y z).getLsbD k =
      decide (2 ≤ (x.getLsbD k).toNat + (y.getLsbD k).toNat + (z.getLsbD k).toNat) ∧
    (bigSigma0 x).getLsbD k =
      (x.getLsbD ((k + 2) % 32) ^^ x.getLsbD ((k + 13) % 32) ^^ x.getLsbD ((k + 22) % 32)) ∧
    (bigSigma1 x).getLsbD k =
      (x.getLsbD ((k + 6) % 32) ^^ x.getLsbD ((k + 11) % 32) ^^ x.getLsbD ((k + 25) % 32)) ∧
    (smallSigma0 x).getLsbD k =
      (x.getLsbD ((k + 7) % 32) ^^ x.getLsbD ((k + 18) % 32) ^^ x.getLsbD (k + 3)) ∧
    (smallSigma1 x).getLsbD k =
      (x.getLsbD ((k + 17) % 32) ^^ x.getLsbD ((k + 19) % 32) ^^ x.getLsbD (k + 10))

/-- R159 to R162, R164: the constants; the schedule is the block, then the recurrence, and an all-zero block gives an
all-zero schedule; a round's new registers; a block runs its 64 rounds from the chaining state and adds the registers back.
Then `compress` of a padded block is its two blocks in order from IV (R165), and `hash_pair` compresses the padded pair
(R166). -/
def Obligations.CompressionRunsItsRounds : Prop :=
  ((List.range 8).map fun j => (List.range 8).foldl (fun a k => a * 2 ^ 32 + (roundK (8 * j + k)).toNat) 0) = [
    0x428a2f98_71374491_b5c0fbcf_e9b5dba5_3956c25b_59f111f1_923f82a4_ab1c5ed5,
    0xd807aa98_12835b01_243185be_550c7dc3_72be5d74_80deb1fe_9bdc06a7_c19bf174,
    0xe49b69c1_efbe4786_0fc19dc6_240ca1cc_2de92c6f_4a7484aa_5cb0a9dc_76f988da,
    0x983e5152_a831c66d_b00327c8_bf597fc7_c6e00bf3_d5a79147_06ca6351_14292967,
    0x27b70a85_2e1b2138_4d2c6dfc_53380d13_650a7354_766a0abb_81c2c92e_92722c85,
    0xa2bfe8a1_a81a664b_c24b8b70_c76c51a3_d192e819_d6990624_f40e3585_106aa070,
    0x19a4c116_1e376c08_2748774c_34b0bcb5_391c0cb3_4ed8aa4a_5b9cca4f_682e6ff3,
    0x748f82ee_78a5636f_84c87814_8cc70208_90befffa_a4506ceb_bef9a3f7_c67178f2] ∧
  iv.toList.foldl (fun a v => a * 2 ^ 32 + v.toNat) 0 =
    0x6a09e667_bb67ae85_3c6ef372_a54ff53a_510e527f_9b05688c_1f83d9ab_5be0cd19 ∧
  (∀ m : MessageBlock,
    (∀ t (h : t < 16), (schedule m)[t] = m[t]) ∧
    ∀ t (h : t < 64), 16 ≤ t → (schedule m)[t] =
      smallSigma1 (schedule m)[t - 2] + (schedule m)[t - 7] + smallSigma0 (schedule m)[t - 15] +
        (schedule m)[t - 16]) ∧
  schedule (Vector.replicate 16 0#32) = Vector.replicate 64 0#32 ∧
  (∀ (w : Schedule) (t : Fin 64) (r : WorkRegs) (t1 t2 : Word),
    t1 = r.h + bigSigma1 r.e + shaCh r.e r.f r.g + roundK t + w[t] → t2 = bigSigma0 r.a + shaMaj r.a r.b r.c →
    shaRound w t r = { a := t1 + t2, b := r.a, c := r.b, d := r.c, e := r.d + t1, f := r.e, g := r.f, h := r.g }) ∧
  (∀ (h : Vector Word 8) (m : MessageBlock), ∃ r : Nat → WorkRegs,
    r 0 = ⟨h[0], h[1], h[2], h[3], h[4], h[5], h[6], h[7]⟩ ∧
    (∀ t : Fin 64, r (t.val + 1) = shaRound (schedule m) t (r t.val)) ∧
    shaBlock h m = #v[h[0] + (r 64).a, h[1] + (r 64).b, h[2] + (r 64).c, h[3] + (r 64).d,
      h[4] + (r 64).e, h[5] + (r 64).f, h[6] + (r 64).g, h[7] + (r 64).h]) ∧
  (∀ (b : PaddedBlock) (m n : MessageBlock), (∀ t (h : t < 16), m[t] = b[t] ∧ n[t] = b[16 + t]) →
    compress b = shaBlock (shaBlock iv m) n) ∧
  ∀ p : SiblingPair, hashPair p = compress (pad p)

/-- An engine that computes each schedule word just before its round, and stores the second block's constant schedule,
computes the same digest of every pair (R163, R169). -/
def Obligations.StoredScheduleEngineAgrees : Prop :=
  ∀ p : SiblingPair, hashPairStored p = hashPair p

/-- The Host's big-endian packing of 32 bytes into a Node and the byte form of a Node invert each other, and byte `4w` is
the most significant of word `w` (R88, R89). -/
def Obligations.BytePackingInverts : Prop :=
  (∀ b : Vector (BitVec 8) 32, nodeBytes (packNode b) = b) ∧ (∀ n : Node, packNode (nodeBytes n) = n) ∧
  ∀ (b : Vector (BitVec 8) 32) (w : Nat) (h : w < 8), (packNode b)[w].toNat =
    b[4 * w].toNat * 2 ^ 24 + b[4 * w + 1].toNat * 2 ^ 16 + b[4 * w + 2].toNat * 2 ^ 8 + b[4 * w + 3].toNat

/-! ### Addressing and striping -/

/-- R186: lane `i` has the pairs `i, i+N, …`; the counts sum to `P`, differ by at most one, never rise with the lane
number, and lanes from `P` on have none. -/
def Obligations.LaneCountsShareTheLevel : Prop :=
  ∀ P N : Nat, 0 < N →
    (∀ i k, k < lanePairs P N i ↔ i + k * N < P) ∧
    ((List.range N).map (lanePairs P N)).sum = P ∧
    (∀ i j, i ≤ j → j < N → lanePairs P N j ≤ lanePairs P N i ∧ lanePairs P N i ≤ lanePairs P N j + 1) ∧
    (∀ i, P ≤ i → lanePairs P N i = 0)

/-- Every pair of a level is exactly one lane's, exactly once (R187, R188 b). -/
def Obligations.EveryPairHasOneLane : Prop :=
  ∀ P N j : Nat, 0 < N → j < P →
    ∃! q : Nat × Nat, q.1 < N ∧ q.2 < lanePairs P N q.1 ∧ pairIndex N q.1 q.2 = j

/-- The level regions are disjoint and fill NodeMem's words `0` to `8(L−1)−1` (R181, R188 a). -/
def Obligations.LevelRegionsTileNodeMem : Prop :=
  ∀ K : Nat, 1 ≤ K →
    (∀ a, a < 8 * (2 ^ K - 1) →
      ∃! r : Nat, r < K ∧ levelOff (2 ^ K) r ≤ a ∧ a < levelOff (2 ^ K) r + 8 * nodeCount (2 ^ K) r) ∧
    (∀ r < K, levelOff (2 ^ K) r + 8 * nodeCount (2 ^ K) r ≤ 8 * (2 ^ K - 1))

/-- Every leaf word, and every NodeMem word of the run but the root's, is a source of exactly one pair (R184, R188 c, d). -/
def Obligations.EverySourceWordIsReadOnce : Prop :=
  ∀ K : Nat, 1 ≤ K →
    (∀ a, a < 8 * 2 ^ K → ∃! q : Nat × Nat, q.1 < K ∧ q.2 < nodeCount (2 ^ K) q.1 ∧
      (pairSrc (2 ^ K) q.1 q.2).1 = .leaf ∧
      (pairSrc (2 ^ K) q.1 q.2).2 ≤ a ∧ a < (pairSrc (2 ^ K) q.1 q.2).2 + 16) ∧
    (∀ a, 8 ≤ a → a < 8 * (2 ^ K - 1) → ∃! q : Nat × Nat, q.1 < K ∧ q.2 < nodeCount (2 ^ K) q.1 ∧
      (pairSrc (2 ^ K) q.1 q.2).1 = .node ∧
      (pairSrc (2 ^ K) q.1 q.2).2 ≤ a ∧ a < (pairSrc (2 ^ K) q.1 q.2).2 + 16)

/-- R190: the root Node is at NodeMem offset 0 for every leaf count. -/
def Obligations.RootNodeAtOffsetZero : Prop :=
  ∀ K : Nat, 1 ≤ K → levelOff (2 ^ K) (K - 1) = 8 * (((2 ^ K) >>> K) - 1) ∧ nodeAddr (2 ^ K) (K - 1) 0 = 0

/-! ### Host accesses -/

/-- R118, R121: what `RD STATUS` returns, bit by bit, the FSM codes and (R122) the error codes as numbers; the read changes
nothing else. -/
def Obligations.StatusReadsItsFields : Prop :=
  ∀ s : State, ∃ w : Word, exec .rdStatus s = .next { s with rdata := w } ∧
    w.getLsbD 0 = decide (s.fsm = .leafLevel ∨ s.fsm = .internalLevel ∨ s.fsm = .root) ∧
    w.getLsbD 1 = decide (s.fsm = .done) ∧
    w.getLsbD 2 = decide (s.fsm = .error) ∧
    w.getLsbD 3 = s.dispatched ∧
    ((s.errCode = .none → w.extractLsb' 4 4 = 0x0#4) ∧ (s.errCode = .cfgLeafCnt → w.extractLsb' 4 4 = 0x1#4) ∧
      (s.errCode = .cfgInWords → w.extractLsb' 4 4 = 0x2#4) ∧
      (s.errCode = .cfgOutWords → w.extractLsb' 4 4 = 0x3#4) ∧
      (s.errCode = .resCapacity → w.extractLsb' 4 4 = 0x8#4)) ∧
    ((s.fsm = .idle → w.extractLsb' 8 3 = 0#3) ∧ (s.fsm = .leafLevel → w.extractLsb' 8 3 = 1#3) ∧
      (s.fsm = .internalLevel → w.extractLsb' 8 3 = 2#3) ∧ (s.fsm = .root → w.extractLsb' 8 3 = 3#3) ∧
      (s.fsm = .done → w.extractLsb' 8 3 = 4#3) ∧ (s.fsm = .error → w.extractLsb' 8 3 = 5#3)) ∧
    w.extractLsb' 11 5 = 0#5 ∧
    w.extractLsb' 16 5 = s.curLevel ∧
    w.extractLsb' 21 11 = 0#11

/-- R261, R263: `RD CTRL` returns 0, `RD LEAF_CNT`, `RD IN_WORDS` and `RD OUT_WORDS` return the registers, in every state,
and nothing else changes. -/
def Obligations.CtrlAndConfigurationReads : Prop :=
  ∀ s : State,
    exec .rdCtrl s = .next { s with rdata := 0#32 } ∧
    exec .rdLeafCnt s = .next { s with rdata := s.leafCnt } ∧
    exec .rdInWords s = .next { s with rdata := s.inWords } ∧
    exec .rdOutWords s = .next { s with rdata := s.outWords }

/-- R264: `RD CONFIG` returns `N | MAX_LOG2_LEAVES<<8 | CHAN_DEPTH<<16`. -/
def Obligations.ConfigReadsTheBuild : Prop :=
  ∀ s : State, s.cfg.wf = true → ∃ w : Word, exec .rdConfig s = .next { s with rdata := w } ∧
    w.toNat = s.cfg.lanes + 256 * s.cfg.maxLog2Leaves + 65536 * s.cfg.chanDepth

/-- R268: the reserved indices read 0 and ignore writes. -/
def Obligations.ReservedIndicesReadZeroIgnoreWrites : Prop :=
  ∀ s : State,
    (∀ i ∈ [Instr.rdRsvd6, .rdRsvd7, .rdRsvd8, .rdRsvd9, .rdRsvd10, .rdRsvd11, .rdRsvd12, .rdRsvd13, .rdRsvd14,
        .rdRsvd15], exec i s = .next { s with rdata := 0#32 }) ∧
    (∀ i ∈ [Instr.wrRsvd6, .wrRsvd7, .wrRsvd8, .wrRsvd9, .wrRsvd10, .wrRsvd11, .wrRsvd12, .wrRsvd13, .wrRsvd14,
        .wrRsvd15], exec i s = .next s)

/-- R266: writes to STATUS and CONFIG have no effect; only START or RESET leaves DONE or ERROR. -/
def Obligations.StatusAndConfigIgnoreWrites : Prop :=
  (∀ s : State, exec .wrStatus s = .next s ∧ exec .wrConfig s = .next s) ∧
  ∀ (i : Instr) (s t : State), s.fsm = .done ∨ s.fsm = .error → exec i s = .next t → t.fsm ≠ s.fsm →
    i.isStart = true ∨ i = .reset

/-- R265: writes to the configuration registers take effect unless BUSY, and no step but RESET changes the registers while
BUSY. -/
def Obligations.ConfigurationWritesIgnoredWhileBusy : Prop :=
  ∀ (s : State) (data : Word),
    (s.busy = false →
      exec (.wrLeafCnt data) s = .next { s with leafCnt := data } ∧
      exec (.wrInWords data) s = .next { s with inWords := data } ∧
      exec (.wrOutWords data) s = .next { s with outWords := data }) ∧
    (s.busy = true →
      exec (.wrLeafCnt data) s = .next s ∧ exec (.wrInWords data) s = .next s ∧
      exec (.wrOutWords data) s = .next s ∧
      ∀ (i : Instr) (t : State), i ≠ .reset → exec i s = .next t →
        t.leafCnt = s.leafCnt ∧ t.inWords = s.inWords ∧ t.outWords = s.outWords)

/-- `WR CTRL` with bit 0 set starts a run from IDLE, DONE or ERROR, after which STATUS reads 0x00000101; while BUSY, and
with bit 0 clear, it has no effect; the other bits of DATA are ignored (R267). The access keeps DATA bit 0 only; the Host's
write step has all of DATA. -/
def Obligations.StartEntersLeafLevel : Prop :=
  ∀ (data : Word) (s : State) (i : Instr), i = .hostWr 0#4 data ∨ i = .wrCtrl (data.extractLsb' 0 1) →
    (data.getLsbD 0 = true → s.busy = false → ∃ t, exec i s = .next t ∧
      t = { s with errCode := .none, curLevel := 0#5, dispatched := false, fsm := .leafLevel } ∧
      t.statusWord = 0x00000101#32) ∧
    (s.busy = true → exec i s = .next s) ∧
    (data.getLsbD 0 = false → exec i s = .next s)

/-- The Host's read and write steps by register index (R117, R260): what each index returns, and what a write to it does. -/
def Obligations.HostStepsByIndex : Prop :=
  ∀ (idx : BitVec 4) (data : Word) (s : State),
    exec (.hostRd idx) s = .next { s with rdata :=
      if idx = 1#4 then s.statusWord else if idx = 2#4 then s.leafCnt else if idx = 3#4 then s.inWords
      else if idx = 4#4 then s.outWords else if idx = 5#4 then configWord s.cfg else 0#32 } ∧
    exec (.hostWr idx data) s = .next (
      if s.busy then s
      else if idx = 0#4 ∧ data.getLsbD 0 = true then
        { s with errCode := .none, curLevel := 0#5, dispatched := false, fsm := .leafLevel }
      else if idx = 2#4 then { s with leafCnt := data }
      else if idx = 3#4 then { s with inWords := data }
      else if idx = 4#4 then { s with outWords := data } else s)

/-! ### RESET -/

/-- R300, R302: RESET, in every state, gives the reset values, keeps the memories, and leaves no block step enabled.
Nothing is said of the buffers, which become unspecified. -/
def Obligations.ResetGivesResetValues : Prop :=
  ∀ s : State, ∃ t : State, exec .reset s = .next t ∧
    t.leafCnt = 0#32 ∧ t.inWords = 0#32 ∧ t.outWords = 0#32 ∧
    t.fsm = .idle ∧ t.curLevel = 0#5 ∧ t.dispatched = false ∧ t.errCode = .none ∧
    t.lanes.length = s.lanes.length ∧
    (∀ l ∈ t.lanes, l.cmdValid = false ∧ l.cmdLevel = 0#5 ∧ l.cmdCount = 0#32 ∧
      l.prdK = 0#32 ∧ l.prdPhase = .read ∧ l.engPhase = .idle ∧
      l.cnsK = 0#32 ∧ l.cnsPhase = .recv ∧ l.done = false ∧ l.req = [] ∧ l.rsp = []) ∧
    t.leafMem = s.leafMem ∧ t.nodeMem = s.nodeMem ∧ t.cfg = s.cfg ∧
    t.statusWord = 0x00000000#32 ∧
    ∀ i : Instr, i.isBlock = true → enabled i t = false

/-- Power-on of every legal build, with any words in its memories and in its lanes' buffers, is a state of R52's values that
keeps the invariant, with empty channels and no block step enabled, and RESET leads to the same registers (R304).
`State.reset` is one of these states; its zeros are the model's choice (log 1, log 4, log 5). -/
def Obligations.PowerOnKeepsInvariant : Prop :=
  (∀ (c : Config) (bufs : Nat → LaneBuffers) (leaf node : Memory), c.wf = true →
    Memory.wf leaf = true → Memory.wf node = true →
    (∀ p ∈ leaf, p.1 < Space.size c .leaf) → (∀ p ∈ node, p.1 < Space.size c .node) →
    ∀ s : State, s = State.powerOn c bufs leaf node →
      s.Inv ∧ s.lanes.length = c.lanes ∧ s.leafMem = leaf ∧ s.nodeMem = node ∧ s.statusWord = 0#32 ∧
      (∀ i : Instr, i.isBlock = true → enabled i s = false) ∧
      ∃ (bufs' : Nat → LaneBuffers) (k : Nat),
        exec .reset s = .next { State.powerOn c bufs' leaf node with resets := k }) ∧
  State.reset = State.powerOn Config.standard (fun _ => LaneBuffers.zero) [] []

/-! ### The orchestrator -/

/-- Which code the configuration check gives, as R122's number, with its order of priority (R204, R281, R282, R286). -/
def Obligations.CheckGivesTheFirstFailingCode : Prop :=
  ∀ (c : Config) (L inw outw : Nat),
    ((checkConfig c L inw outw).code = 0x1#4 ↔ ¬ ∃ k, 1 ≤ k ∧ L = 2 ^ k) ∧
    ∀ k, 1 ≤ k → L = 2 ^ k →
      ((checkConfig c L inw outw).code = 0x8#4 ↔ c.maxLog2Leaves < k) ∧
      ((checkConfig c L inw outw).code = 0x2#4 ↔ k ≤ c.maxLog2Leaves ∧ inw ≠ 8 * L) ∧
      ((checkConfig c L inw outw).code = 0x3#4 ↔ k ≤ c.maxLog2Leaves ∧ inw = 8 * L ∧ outw ≠ 8 * (L - 1)) ∧
      ((checkConfig c L inw outw).code = 0x0#4 ↔ k ≤ c.maxLog2Leaves ∧ inw = 8 * L ∧ outw = 8 * (L - 1))

/-- R283: a failing check enters ERROR in one step that changes these four fields and nothing else; STATUS then reads
`0x00000504 | c<<4`, and no step of the block is enabled. -/
def Obligations.FailedCheckEntersError : Prop :=
  ∀ s : State, s.Inv → s.fsm = .leafLevel →
    s.check ≠ .none → ∃ t : State, exec .orcCheck s = .next t ∧
      t = { s with errCode := s.check, curLevel := 0#5, dispatched := false, fsm := .error } ∧
      t.statusWord = 0x00000504#32 ||| (s.check.code.setWidth 32 <<< 4) ∧
      ∀ i : Instr, i.isBlock = true → enabled i t = false

/-- R203: ORC_CHECK is enabled in LEAF_LEVEL; a failing check enters ERROR with its code, a passing one enters ROOT for two
leaves and INTERNAL_LEVEL[0] for more, where STATUS reads 0x00000301 or 0x00000201; nothing else changes. -/
def Obligations.CheckEntersErrorOrFirstLevel : Prop :=
  ∀ s : State,
    (enabled .orcCheck s = true ↔ s.fsm = .leafLevel) ∧
    (s.fsm = .leafLevel → s.check ≠ .none →
      exec .orcCheck s = .next { s with errCode := s.check, curLevel := 0#5, dispatched := false, fsm := .error }) ∧
    (s.fsm = .leafLevel → s.check = .none →
      exec .orcCheck s = .next { s with
        curLevel := 0#5
        dispatched := false
        fsm := if s.leafCnt = 2#32 then .root else .internalLevel }) ∧
    (s.Inv → s.fsm = .leafLevel → s.check = .none → ∀ t : State, exec .orcCheck s = .next t →
      t.statusWord = if s.leafCnt = 2#32 then 0x00000301#32 else 0x00000201#32)

/-- R206: ORC_DISPATCH is enabled in INTERNAL_LEVEL and ROOT while no level is dispatched; in one step it gives every lane
the command of the current level, sets the barrier flag and changes nothing else; a lane with no pair can commit at once. -/
def Obligations.DispatchCommandsEveryLane : Prop :=
  ∀ s : State,
    (enabled .orcDispatch s = true ↔ (s.fsm = .internalLevel ∨ s.fsm = .root) ∧ s.dispatched = false) ∧
    (enabled .orcDispatch s = true → ∃ t : State, exec .orcDispatch s = .next t ∧
      t = { s with lanes := t.lanes, dispatched := true } ∧ t.lanes.length = s.lanes.length ∧
      ∀ (i : Nat) (l : Lane), s.lanes[i]? = some l → ∀ c : Nat,
        c = lanePairs (s.leafCnt.toNat >>> (s.curLevel.toNat + 1)) s.cfg.lanes i →
        t.lanes[i]? = some { l with
          cmdValid := true
          cmdLevel := s.curLevel
          cmdCount := BitVec.ofNat 32 c
          prdK := 0#32
          prdPhase := .read
          cnsK := 0#32
          cnsPhase := .recv
          done := false } ∧
        (c = 0 → i < 256 → enabled (.cnsDone (BitVec.ofNat 8 i)) t = true))

/-- R213: ORC_JOIN is enabled exactly while a level is dispatched and every lane has committed; it releases the lanes and
enters the next level, ROOT after the last internal level, or DONE after ROOT, and changes nothing else. -/
def Obligations.JoinReleasesTheBarrier : Prop :=
  ∀ s : State,
    (enabled .orcJoin s = true ↔
      (s.fsm = .internalLevel ∨ s.fsm = .root) ∧ s.dispatched = true ∧ ∀ l ∈ s.lanes, l.done = true) ∧
    (s.dispatched = true → (∀ l ∈ s.lanes, l.done = true) →
      (s.fsm = .root → exec .orcJoin s = .next { s with
        lanes := s.lanes.map fun l => { l with cmdValid := false, done := false }
        dispatched := false
        fsm := .done }) ∧
      (s.fsm = .internalLevel → s.curLevel.toNat + 1 < Nat.log2 s.leafCnt.toNat - 1 →
        exec .orcJoin s = .next { s with
          lanes := s.lanes.map fun l => { l with cmdValid := false, done := false }
          dispatched := false
          curLevel := s.curLevel + 1#5 }) ∧
      (s.fsm = .internalLevel → ¬ s.curLevel.toNat + 1 < Nat.log2 s.leafCnt.toNat - 1 →
        exec .orcJoin s = .next { s with
          lanes := s.lanes.map fun l => { l with cmdValid := false, done := false }
          dispatched := false
          fsm := .root
          curLevel := BitVec.ofNat 5 (Nat.log2 s.leafCnt.toNat - 1) }))

/-- R214: at ORC_JOIN every lane is empty, so nothing of one level reaches the next. -/
def Obligations.JoinFindsEveryLaneEmpty : Prop :=
  ∀ s : State, s.Inv → enabled .orcJoin s = true → ∀ l ∈ s.lanes,
    l.req = [] ∧ l.rsp = [] ∧ l.engPhase = .idle ∧ l.prdPhase = .read ∧ l.prdK = l.cmdCount ∧
    l.cnsPhase = .recv ∧ l.cnsK = l.cmdCount

/-! ### The lanes -/

/-- PRD_READ is enabled while the lane's command has a pair left to read; it reads the 16 words of that pair into PB and
changes nothing else (R233). In a state that keeps the invariant those words exist (R288). -/
def Obligations.ProducerReadsItsPair : Prop :=
  ∀ (lane : BitVec 8) (s : State) (l : Lane), s.lanes[lane.toNat]? = some l →
    (enabled (.prdRead lane) s = true ↔
      l.cmdValid = true ∧ l.prdPhase = .read ∧ l.prdK.toNat < l.cmdCount.toNat) ∧
    ∀ (sp : Space) (a : Nat), enabled (.prdRead lane) s = true →
      (sp, a) = pairSrc s.leafCnt.toNat l.cmdLevel.toNat (lane.toNat + l.prdK.toNat * s.cfg.lanes) →
      (s.Inv → a + 16 ≤ Space.size s.cfg sp) ∧
      (a + 16 ≤ Space.size s.cfg sp →
        exec (.prdRead lane) s = .next (s.setLane lane.toNat { l with
          buf.pb := Vector.ofFn fun w : Fin 16 => Memory.read (s.memOf sp) (a + w.val)
          prdPhase := .pad }))

/-- PRD_PAD pads PB into BB (R234), ENG_COMPRESS computes the digest of EB into ED (R238), CNS_DONE commits the level
(R246), each exactly when its condition holds; each changes nothing else. What ENG_COMPRESS leaves in the engine's own
registers is not said. -/
def Obligations.RegisterStepsOfALane : Prop :=
  ∀ (lane : BitVec 8) (s : State) (l : Lane), s.lanes[lane.toNat]? = some l →
    (enabled (.prdPad lane) s = true ↔ l.prdPhase = .pad) ∧
    (l.prdPhase = .pad → exec (.prdPad lane) s = .next (s.setLane lane.toNat
      { l with buf.bb := pad l.buf.pb, prdPhase := .send })) ∧
    (enabled (.engCompress lane) s = true ↔ l.engPhase = .compute) ∧
    (l.engPhase = .compute → ∃ dp : Datapath, exec (.engCompress lane) s = .next (s.setLane lane.toNat
      { l with buf.ed := compress l.buf.eb, buf.dp := dp, engPhase := .out })) ∧
    (enabled (.cnsDone lane) s = true ↔
      l.cmdValid = true ∧ l.done = false ∧ l.cnsPhase = .recv ∧ l.cnsK = l.cmdCount) ∧
    (enabled (.cnsDone lane) s = true →
      exec (.cnsDone lane) s = .next (s.setLane lane.toNat { l with done := true }))

/-- The two sends are enabled on a channel that is not full, append to it, and change nothing else but their own counter
and phase (R235, R239, R230). -/
def Obligations.SendsAppendUnlessFull : Prop :=
  ∀ (lane : BitVec 8) (s : State) (l : Lane), s.lanes[lane.toNat]? = some l →
    (enabled (.prdSend lane) s = true ↔ l.prdPhase = .send ∧ l.req.length < s.cfg.chanDepth) ∧
    (enabled (.prdSend lane) s = true → exec (.prdSend lane) s = .next (s.setLane lane.toNat
      { l with req := l.req ++ [l.buf.bb], prdK := l.prdK + 1#32, prdPhase := .read })) ∧
    (enabled (.engSend lane) s = true ↔ l.engPhase = .out ∧ l.rsp.length < s.cfg.chanDepth) ∧
    (enabled (.engSend lane) s = true → exec (.engSend lane) s = .next (s.setLane lane.toNat
      { l with rsp := l.rsp ++ [l.buf.ed], engPhase := .idle }))

/-- The two receives are enabled on a channel that is not empty, take its head, and change nothing else but their own
phase (R237, R241, R230). -/
def Obligations.ReceivesTakeTheHead : Prop :=
  ∀ (lane : BitVec 8) (s : State) (l : Lane), s.lanes[lane.toNat]? = some l →
    (enabled (.engRecv lane) s = true ↔ l.engPhase = .idle ∧ l.req ≠ []) ∧
    (∀ b rest, enabled (.engRecv lane) s = true → l.req = b :: rest →
      exec (.engRecv lane) s = .next (s.setLane lane.toNat
        { l with req := rest, buf.eb := b, engPhase := .compute })) ∧
    (enabled (.cnsRecv lane) s = true ↔
      l.cmdValid = true ∧ l.cnsPhase = .recv ∧ l.cnsK.toNat < l.cmdCount.toNat ∧ l.rsp ≠ []) ∧
    (∀ d rest, enabled (.cnsRecv lane) s = true → l.rsp = d :: rest →
      exec (.cnsRecv lane) s = .next (s.setLane lane.toNat
        { l with rsp := rest, buf.db := d, cnsPhase := .write }))

/-- CNS_WRITE is enabled while DB holds a digest; it stores DB at the Node's 8 words and leaves every other word of both
memories, and everything else, as it was (R94, R242). In a state that keeps the invariant those words exist (R288). -/
def Obligations.ConsumerStoresItsNode : Prop :=
  ∀ (lane : BitVec 8) (s : State) (l : Lane), s.lanes[lane.toNat]? = some l →
    (enabled (.cnsWrite lane) s = true ↔ l.cnsPhase = .write) ∧
    ∀ a : Nat, l.cnsPhase = .write →
      a = pairDst s.leafCnt.toNat l.cmdLevel.toNat (lane.toNat + l.cnsK.toNat * s.cfg.lanes) →
      (s.Inv → a + 8 ≤ Space.size s.cfg .node) ∧
      (a + 8 ≤ Space.size s.cfg .node → Memory.wf s.nodeMem = true →
        ∃ t : State, exec (.cnsWrite lane) s = .next t ∧
          t = { s with
            nodeMem := t.nodeMem
            lanes := s.lanes.set lane.toNat { l with cnsK := l.cnsK + 1#32, cnsPhase := .recv } } ∧
          (∀ w (h : w < 8), Memory.read t.nodeMem (a + w) = l.buf.db[w]) ∧
          (∀ b : Nat, b < a ∨ a + 8 ≤ b → Memory.read t.nodeMem b = Memory.read s.nodeMem b))

/-- A lane step stops, by name, only where the build has no such lane (R14), or where PRD_READ or CNS_WRITE would reach a
word the memories do not have (R82, R83). The stops are the model's (log 11, log 14). -/
def Obligations.LaneStepsStopByName : Prop :=
  ∀ (i : Instr) (lane : BitVec 8) (s : State), i.lane? = some lane →
    (s.lanes[lane.toNat]? = none → exec i s = .refused .noSuchLane) ∧
    ∀ l : Lane, s.lanes[lane.toNat]? = some l → enabled i s = true →
      (i = .prdRead lane →
        Space.size s.cfg (s.readSource lane.toNat l).1 < (s.readSource lane.toNat l).2 + 16 →
        exec i s = .fault .addressOutOfRange) ∧
      (i = .cnsWrite lane → Space.size s.cfg .node < s.writeTarget lane.toNat l + 8 →
        exec i s = .fault .addressOutOfRange)

/-- At a turn at which its step is not enabled an agent of the build waits: nothing changes. That a turn may pass so is the
model's reading of "blocks" (log 6). -/
def Obligations.DisabledStepsWait : Prop :=
  ∀ (i : Instr) (s : State), s.lanes.length = s.cfg.lanes → i.wf s.cfg = true → enabled i s = false →
    exec i s = .next s

/-- A lane's step reads and writes no other lane: the others are left as they were, the orchestrator's state and the
registers too, and the lane's own next state does not depend on them (R251). -/
def Obligations.LanesAreIndependent : Prop :=
  ∀ (i : Instr) (lane : BitVec 8) (s t : State), i.lane? = some lane → exec i s = .next t →
    (t = { s with lanes := t.lanes, nodeMem := t.nodeMem } ∧
      ∀ k : Nat, k ≠ lane.toNat → t.lanes[k]? = s.lanes[k]?) ∧
    ∀ lanes : List Lane, lanes[lane.toNat]? = s.lanes[lane.toNat]? →
      ∃ u : State, exec i { s with lanes := lanes } = .next u ∧
        u.lanes[lane.toNat]? = t.lanes[lane.toNat]? ∧ u.nodeMem = t.nodeMem

/-- Steps of different lanes commute: taken in either order they reach the same state (R102, R106). A step that is not
enabled takes part as a turn that changes nothing, which is the model's reading (log 6). -/
def Obligations.StepsOfDifferentLanesCommute : Prop :=
  ∀ (s : State) (i j : Instr) (a b : BitVec 8), s.Inv → i.lane? = some a → j.lane? = some b → a ≠ b →
    i.wf s.cfg = true → j.wf s.cfg = true →
    ∃ t u v : State, exec i s = .next t ∧ exec j t = .next v ∧ exec j s = .next u ∧ exec i u = .next v

/-! ### One step of the machine -/

/-- When the next input is a frame that decodes to `i`, a step is `exec` of `i` from the state without that input, its event
recorded if its step is enabled (R124; what is recorded is log 10's). -/
def Obligations.StepRunsTheDecodedInstruction : Prop :=
  ∀ (s : State) (f : Frame) (rest : List Input) (i : Instr), s.assertions = true →
    s.inputs = .frame f :: rest → decode f = .ok i →
    step s = exec i { s with
      inputs := rest
      history := if enabled i s then eventAt i f.data s :: s.history else s.history }

/-- With no input, a step of a busy or resting block is an enabled step of one of its agents, or changes nothing where none
is enabled (R14). Which one is a free value (log 3). -/
def Obligations.FreeTurnTakesAnEnabledStep : Prop :=
  ∀ s : State, s.assertions = true → s.inputs = [] →
    ((∀ i ∈ blockSteps s.cfg, enabled i s = false) → step s = .next s) ∧
    ((∃ i ∈ blockSteps s.cfg, enabled i s = true) →
      ∃ i ∈ blockSteps s.cfg, enabled i s = true ∧
        step s = exec i { s with turn := s.turn + 1, history := eventAt i 0#32 s :: s.history })

/-- A frame that names no step is refused by name, and a state that breaks R54 is an assertion failure (R289, I18, I20). -/
def Obligations.StepStopsByName : Prop :=
  ∀ s : State,
    (s.assertions = false → step s = .fault .assertionFailed) ∧
    ∀ (f : Frame) (rest : List Input) (e : DecodeError), s.assertions = true → s.inputs = .frame f :: rest →
      decode f = .error e → step s = .refused (.undecodable e)

/-- The Host's transfers: refused while BUSY, a fault outside the memory, else the words stored or returned and nothing
else changed (R270, R271, R272). The refusal's and the fault's names are the model's (log 11, log 16). -/
def Obligations.HostTransfersOnlyWhenNotBusy : Prop :=
  ∀ (s : State) (sp : Space) (a : Nat) (ws : List Word) (n : Nat), Memory.wf (s.memOf sp) = true →
    (s.busy = true → hostStore sp a ws s = .refused .hostMemoryWhileBusy ∧
      hostLoad sp a n s = .refused .hostMemoryWhileBusy) ∧
    (s.busy = false → Space.size s.cfg sp < a + ws.length → hostStore sp a ws s = .fault .addressOutOfRange) ∧
    (s.busy = false → Space.size s.cfg sp < a + n → hostLoad sp a n s = .fault .addressOutOfRange) ∧
    (s.busy = false → a + ws.length ≤ Space.size s.cfg sp →
      ∃ t : State, hostStore sp a ws s = .next t ∧ t = s.withMem sp (t.memOf sp) ∧
        ∀ b : Nat, Memory.read (t.memOf sp) b =
          if a ≤ b ∧ b < a + ws.length then ws.getD (b - a) 0#32 else Memory.read (s.memOf sp) b) ∧
    (s.busy = false → a + n ≤ Space.size s.cfg sp →
      ∃ vs : List Word, hostLoad sp a n s = .next { s with xferData := vs } ∧ vs.length = n ∧
        ∀ k < n, vs.getD k 0#32 = Memory.read (s.memOf sp) (a + k))

/-! ### Invariants and whole-machine rules -/

/-- The invariant holds after every step that answers a next state, of any agent and of the Host. -/
def Obligations.StepKeepsInvariant : Prop :=
  ∀ s t : State, s.Inv → step s = .next t → t.Inv

/-- The invariant implies the assertions (a) to (e) of R54, so that no step from it is an assertion failure (R54, R289). -/
def Obligations.InvariantImpliesAssertions : Prop :=
  ∀ s : State, s.Inv → s.assertions = true ∧ step s ≠ .fault .assertionFailed

/-- From a state that keeps the invariant no instruction faults, and once the check has passed no step enters ERROR
(R288). That an instruction of the build whose step is not enabled answers a next state too is the model's reading: such a
turn waits (log 6). -/
def Obligations.NoErrorOnceTheCheckPassed : Prop :=
  ∀ (s : State) (i : Instr), s.Inv →
    (∀ r : Fault, exec i s ≠ .fault r) ∧
    (i.wf s.cfg = true → ∃ t : State, exec i s = .next t) ∧
    ∀ t : State, s.fsm.producing = true → exec i s = .next t → t.fsm ≠ .error

/-- In every state of a run some step of the block is enabled (R250: progress, no deadlock). -/
def Obligations.BusyBlockCanStep : Prop :=
  ∀ s : State, s.Inv → s.busy = true → ∃ i ∈ blockSteps s.cfg, enabled i s = true

/-- Every change of `fsm`, `cur_level` or `dispatched` is a row of R202, with the row's event, level and barrier flag. What
holds only of reachable states, the barrier flag clear before START and ORC_CHECK and `r = rounds − 1` before ROOT, is said
of the states that keep the invariant. -/
def Obligations.FsmFollowsItsTable : Prop :=
  ∀ (i : Instr) (s t : State), exec i s = .next t →
    ¬ (t.fsm = s.fsm ∧ t.curLevel = s.curLevel ∧ t.dispatched = s.dispatched) →
    fsmRow i s t ∧
    (s.Inv →
      (i.isStart = true ∨ i = .orcCheck → s.dispatched = false) ∧
      (i = .orcJoin → s.fsm = .internalLevel → t.fsm = .root → s.curLevel.toNat + 1 = roundsOf s.leaves))

/-- R201: START is the only entry to LEAF_LEVEL; DONE and ERROR are left only by START, to LEAF_LEVEL, or RESET, to IDLE;
no step of the orchestrator or of a lane leaves them. -/
def Obligations.TerminalStatesLeftByStartOrReset : Prop :=
  ∀ (i : Instr) (s t : State), exec i s = .next t →
    (s.fsm ≠ .leafLevel → t.fsm = .leafLevel → i.isStart = true) ∧
    (s.fsm = .done ∨ s.fsm = .error →
      t.fsm = s.fsm ∨ (i.isStart = true ∧ t.fsm = .leafLevel) ∨ (i = .reset ∧ t.fsm = .idle)) ∧
    (s.fsm = .done ∨ s.fsm = .error → i.isBlock = true → t.fsm = s.fsm)

/-- No instruction writes LeafMem or changes the build, and only CNS_WRITE writes NodeMem (R30, R82, R85). Of the model's
own fields no instruction changes the inputs, the history, the transferred words or the turn, and only a register read
changes the returned word: that RESET keeps them too is the model's choice (log 3, log 7, log 8, log 10). -/
def Obligations.OnlyConsumersWriteMemory : Prop :=
  ∀ (i : Instr) (s t : State), exec i s = .next t →
    t.leafMem = s.leafMem ∧ t.cfg = s.cfg ∧ ((∀ lane, i ≠ .cnsWrite lane) → t.nodeMem = s.nodeMem) ∧
    t.inputs = s.inputs ∧ t.history = s.history ∧ t.xferData = s.xferData ∧ t.turn = s.turn ∧
    (i.kind ≠ .hostRd → t.rdata = s.rdata)

/-- A block step leaves every NodeMem word at or above `8(L−1)` alone (R83, R224). -/
def Obligations.WordsAboveTheTreeAreUntouched : Prop :=
  ∀ (i : Instr) (s t : State), s.Inv → i.isBlock = true → exec i s = .next t →
    ∀ a : Nat, 8 * (s.leafCnt.toNat - 1) ≤ a → Memory.read t.nodeMem a = Memory.read s.nodeMem a

/-! ### Runs -/

/-- Every enabled step of a run uses up exactly one of the steps it has left (R250). -/
def Obligations.EveryBlockStepIsCounted : Prop :=
  ∀ (i : Instr) (s : State), s.Inv → i.isBlock = true → enabled i s = true →
    ∃ t : State, exec i s = .next t ∧ t.stepsLeft + 1 = s.stepsLeft

/-- From START with a passing check, a schedule of enabled block steps reaches DONE exactly when it has taken
`1 + 2K + 8(L−1) + N·K` of them, in every interleaving (R250, R320). -/
def Obligations.RunTakesExactlyItsSteps : Prop :=
  ∀ (s t : State) (is : List Instr), s.Inv → s.fsm = .leafLevel → s.check = .none → BlockSchedule s.cfg is →
    allEnabled is s = true → runSchedule is s = .next t →
    (t.fsm = .done ↔ is.length =
      1 + 2 * Nat.log2 s.leafCnt.toNat + 8 * (s.leafCnt.toNat - 1) + s.cfg.lanes * Nat.log2 s.leafCnt.toNat)

/-- Every run that reaches DONE, under every schedule and whatever accesses the Host makes meanwhile, has written every Node
slot of the tree exactly once, and no other (R107, R221). -/
def Obligations.EveryNodeIsWrittenOnce : Prop :=
  ∀ (s t : State) (is : List Instr), s.Inv → s.fsm = .leafLevel → s.check = .none → RunSchedule s.cfg is →
    runSchedule is s = .next t → t.fsm = .done →
    (writtenOffsets is s).Perm ((List.range (s.leafCnt.toNat - 1)).map (8 * ·))

/-- The level barrier: under every schedule, when a lane can read a pair of level `r + 1`, every Node of level `r` has been
written (R100, R220). -/
def Obligations.BarrierOrdersReadsAfterWrites : Prop :=
  ∀ (s t : State) (is : List Instr) (l : Lane) (r : Nat), s.Inv → s.fsm = .leafLevel → s.check = .none →
    RunSchedule s.cfg is → runSchedule is s = .next t → l ∈ t.lanes → l.readReady = true →
    l.cmdLevel.toNat = r + 1 →
    ∀ j < nodeCount s.leafCnt.toNat r, nodeAddr s.leafCnt.toNat r j ∈ writtenOffsets is s

/-- R189, R223: in every run from START with a passing check, for every lane count, channel depth and interleaving of the
agents and the Host's accesses, NodeMem at DONE holds the whole tree over the leaves. -/
def Obligations.RunComputesTheTree : Prop :=
  ∀ (s t : State) (is : List Instr), s.Inv → s.fsm = .leafLevel → s.check = .none → RunSchedule s.cfg is →
    runSchedule is s = .next t → t.fsm = .done →
    TreeStored s.leafMem t.nodeMem s.leafCnt.toNat

/-- Lane-count invariance: two runs over the same leaves, on builds with any lane counts and channel depths and under any
schedules, leave the same words in the tree's region (R222, R223). -/
def Obligations.ResultDoesNotDependOnTheBuild : Prop :=
  ∀ (s s' t t' : State) (is is' : List Instr), s.Inv → s'.Inv → s.fsm = .leafLevel → s'.fsm = .leafLevel →
    s.check = .none → s'.check = .none → s.leafCnt = s'.leafCnt →
    (∀ a < 8 * s.leafCnt.toNat, Memory.read s.leafMem a = Memory.read s'.leafMem a) →
    RunSchedule s.cfg is → RunSchedule s'.cfg is' →
    runSchedule is s = .next t → runSchedule is' s' = .next t' → t.fsm = .done → t'.fsm = .done →
    ∀ a < 8 * (s.leafCnt.toNat - 1), Memory.read t.nodeMem a = Memory.read t'.nodeMem a

/-- Left to itself after START, whatever the free scheduler chooses, the machine is at DONE after exactly
`1 + 2K + 8(L−1) + N·K` steps, with the tree stored; a rejected configuration is at ERROR after one (R224, R250). -/
def Obligations.FreeRunReachesDone : Prop :=
  ∀ s : State, s.Inv → s.fsm = .leafLevel → s.inputs = [] →
    (s.check = .none → ∃ t : State,
      Sys2Proof.core.run (1 + 2 * Nat.log2 s.leafCnt.toNat + 8 * (s.leafCnt.toNat - 1) +
        s.cfg.lanes * Nat.log2 s.leafCnt.toNat) s = .next t ∧
      t.fsm = .done ∧ TreeStored s.leafMem t.nodeMem s.leafCnt.toNat) ∧
    (s.check ≠ .none → ∃ t : State, Sys2Proof.core.run 1 s = .next t ∧ t.fsm = .error ∧ t.errCode = s.check)

/-- `RUN L` from a block that is not busy ends with STATUS showing DONE and the tree over the leaves stored (R128, R305).
That the block takes one step between two polls of WAIT is the model's reading (log 19), and that it never rests while a
step is enabled is its free scheduler's (log 3, log 18), where R128 asks for weak fairness. -/
def Obligations.RunPseudoOperationEndsDone : Prop :=
  ∀ (s : State) (k : Nat), s.Inv → s.busy = false → s.inputs = [] → 1 ≤ k → k ≤ s.cfg.maxLog2Leaves →
    ∃ (n : Nat) (t : State), runLeaves (2 ^ k) n s = .next t ∧
      t.rdata.getLsbD 0 = false ∧ t.rdata.getLsbD 1 = true ∧ TreeStored s.leafMem t.nodeMem (2 ^ k)
end

