-- ==== Sys2Proof/Laws/Memory.lean ====
section
/-! SUPPORT. The laws of the memories: read after write, every other offset left alone, the canonical form kept and
unique. -/

namespace Sys2Proof.Machine

/-! ### The canonical form -/

theorem Memory.wf_of_wfAbove {a : Nat} {m : Memory} (h : Memory.wfAbove a m = true) : Memory.wf m = true := by
  cases m with
  | nil => rfl
  | cons c rest => simp_all [Memory.wfAbove, Memory.wf]

theorem Memory.wfAbove_mono {a b : Nat} {m : Memory} (hab : a ≤ b) (h : Memory.wfAbove b m = true) :
    Memory.wfAbove a m = true := by
  cases m with
  | nil => rfl
  | cons c rest =>
    simp only [Memory.wfAbove, Bool.and_eq_true, decide_eq_true_eq] at h ⊢
    exact ⟨⟨by omega, h.1.2⟩, h.2⟩

/-- An offset at or below the bound is not listed. -/
theorem Memory.read_of_wfAbove {a b : Nat} {m : Memory} (h : Memory.wfAbove a m = true) (hb : b ≤ a) :
    Memory.read m b = Memory.unlisted := by
  induction m generalizing a with
  | nil => rfl
  | cons c rest ih =>
    simp only [Memory.wfAbove, Bool.and_eq_true, decide_eq_true_eq] at h
    simp only [Memory.read, show ¬ c.1 = b by omega, if_false]
    exact ih h.2 (by omega)

theorem Memory.wfAbove_consCell {a k : Nat} {v : Word} {rest : Memory} (hak : a < k)
    (h : Memory.wfAbove k rest = true) : Memory.wfAbove a (Memory.consCell k v rest) = true := by
  unfold Memory.consCell
  split
  · exact Memory.wfAbove_mono (by omega) h
  · rename_i hv
    simp [Memory.wfAbove, hak, h, hv]

theorem Memory.wfAbove_write {a k : Nat} {v : Word} {m : Memory} (hak : a < k) (h : Memory.wfAbove a m = true) :
    Memory.wfAbove a (Memory.write m k v) = true := by
  induction m generalizing a with
  | nil => exact Memory.wfAbove_consCell hak rfl
  | cons c rest ih =>
    have hc := h
    simp only [Memory.wfAbove, Bool.and_eq_true, decide_eq_true_eq] at hc
    unfold Memory.write
    split
    · apply Memory.wfAbove_consCell hak
      simp only [Memory.wfAbove, Bool.and_eq_true, decide_eq_true_eq]
      exact ⟨⟨‹_›, hc.1.2⟩, hc.2⟩
    · split
      · exact Memory.wfAbove_consCell hak (by subst_vars; exact hc.2)
      · simp only [Memory.wfAbove, Bool.and_eq_true, decide_eq_true_eq]
        exact ⟨hc.1, ih (by omega) hc.2⟩

/-- A write keeps the canonical form. -/
theorem Memory.wf_write {k : Nat} {v : Word} {m : Memory} (h : Memory.wf m = true) :
    Memory.wf (Memory.write m k v) = true := by
  cases m with
  | nil => simp only [Memory.write, Memory.consCell]; split <;> simp_all [Memory.wf, Memory.wfAbove]
  | cons c rest =>
    have hc := h
    simp only [Memory.wf, Bool.and_eq_true] at hc
    unfold Memory.write
    split
    · unfold Memory.consCell
      split
      · exact h
      · simp_all [Memory.wf, Memory.wfAbove]
    · split
      · unfold Memory.consCell
        split
        · exact Memory.wf_of_wfAbove hc.2
        · subst_vars; simp_all [Memory.wf]
      · simp only [Memory.wf, Bool.and_eq_true]
        exact ⟨hc.1, Memory.wfAbove_write (by omega) hc.2⟩

theorem Memory.wf_writeWords {ws : List Word} {a : Nat} {m : Memory} (h : Memory.wf m = true) :
    Memory.wf (Memory.writeWords m a ws) = true := by
  induction ws generalizing a m with
  | nil => exact h
  | cons w rest ih => exact ih (Memory.wf_write h)

/-! ### Read after write -/

theorem Memory.read_consCell {a b : Nat} {v : Word} {rest : Memory} (h : Memory.wfAbove a rest = true) :
    Memory.read (Memory.consCell a v rest) b = if a = b then v else Memory.read rest b := by
  unfold Memory.consCell
  split
  · split
    · subst_vars; exact Memory.read_of_wfAbove h (Nat.le_refl _)
    · rfl
  · rfl

theorem Memory.read_write_wfAbove {a b k : Nat} {v : Word} {m : Memory} (h : Memory.wfAbove k m = true) :
    Memory.read (Memory.write m a v) b = if a = b then v else Memory.read m b := by
  induction m generalizing k with
  | nil => exact Memory.read_consCell rfl
  | cons c rest ih =>
    have hc := h
    simp only [Memory.wfAbove, Bool.and_eq_true, decide_eq_true_eq] at hc
    unfold Memory.write
    split
    · apply Memory.read_consCell
      simp only [Memory.wfAbove, Bool.and_eq_true, decide_eq_true_eq]
      exact ⟨⟨‹_›, hc.1.2⟩, hc.2⟩
    · split
      · rw [Memory.read_consCell (by subst_vars; exact hc.2)]
        simp only [Memory.read]
        split_ifs <;> simp_all
      · simp only [Memory.read, ih hc.2]
        split_ifs <;> simp_all

/-- The offset written reads as the word written, and every other offset reads as before. -/
theorem Memory.read_write {a b : Nat} {v : Word} {m : Memory} (h : Memory.wf m = true) :
    Memory.read (Memory.write m a v) b = if a = b then v else Memory.read m b := by
  cases m with
  | nil => exact Memory.read_consCell rfl
  | cons c rest =>
    have hc := h
    simp only [Memory.wf, Bool.and_eq_true] at hc
    unfold Memory.write
    split
    · apply Memory.read_consCell
      simp_all [Memory.wfAbove]
    · split
      · rw [Memory.read_consCell (by subst_vars; exact hc.2)]
        simp only [Memory.read]
        split_ifs <;> simp_all
      · simp only [Memory.read, Memory.read_write_wfAbove hc.2]
        split_ifs <;> simp_all

/-- The words written, and every other offset as before. -/
theorem Memory.read_writeWords {ws : List Word} {a b : Nat} {m : Memory} (h : Memory.wf m = true) :
    Memory.read (Memory.writeWords m a ws) b =
      if a ≤ b then (ws[b - a]?).getD (Memory.read m b) else Memory.read m b := by
  induction ws generalizing a m with
  | nil => simp [Memory.writeWords]
  | cons w rest ih =>
    rw [Memory.writeWords, ih (Memory.wf_write h), Memory.read_write h]
    by_cases hab : a = b
    · subst hab
      simp
    · by_cases hle : a ≤ b
      · have h1 : a + 1 ≤ b := by omega
        have h2 : b - a = (b - (a + 1)) + 1 := by omega
        simp [hab, hle, h1, h2]
      · have h1 : ¬ a + 1 ≤ b := by omega
        simp [hab, hle, h1]

@[simp] theorem Memory.readWords_getElem {m : Memory} {a n j : Nat} (h : j < n) :
    (Memory.readWords m a n)[j] = Memory.read m (a + j) := by
  simp [Memory.readWords]

/-! ### The range of the listed offsets -/

theorem Memory.mem_write {k : Nat} {v : Word} {m : Memory} {p : Nat × Word} (h : p ∈ Memory.write m k v) :
    p = (k, v) ∨ p ∈ m := by
  induction m with
  | nil =>
    simp only [Memory.write, Memory.consCell] at h
    split at h <;> simp_all
  | cons c rest ih =>
    unfold Memory.write Memory.consCell at h
    split at h
    · split at h <;> simp_all
    · split at h
      · split at h
        · exact .inr (List.mem_cons_of_mem _ h)
        · rcases List.mem_cons.mp h with h | h
          · exact .inl h
          · exact .inr (List.mem_cons_of_mem _ h)
      · rcases List.mem_cons.mp h with h | h
        · exact .inr (h ▸ List.mem_cons_self)
        · exact (ih h).imp_right (List.mem_cons_of_mem _)

/-- A cell listed after a write of consecutive words was listed before or is at one of their offsets. -/
theorem Memory.mem_writeWords {ws : List Word} {a : Nat} {m : Memory} {p : Nat × Word}
    (h : p ∈ Memory.writeWords m a ws) : p ∈ m ∨ (a ≤ p.1 ∧ p.1 < a + ws.length) := by
  induction ws generalizing a m with
  | nil => exact .inl h
  | cons w rest ih =>
    rcases ih h with h | h
    · rcases Memory.mem_write h with rfl | h
      · exact .inr (by simp)
      · exact .inl h
    · exact .inr (by simp only [List.length_cons]; omega)

/-! ### The canonical form is unique -/

theorem Memory.ext_wfAbove {a b : Nat} {m n : Memory} (hm : Memory.wfAbove a m = true)
    (hn : Memory.wfAbove b n = true) (h : ∀ k, Memory.read m k = Memory.read n k) : m = n := by
  induction m generalizing a b n with
  | nil =>
    cases n with
    | nil => rfl
    | cons c rest =>
      simp only [Memory.wfAbove, Bool.and_eq_true] at hn
      have := h c.1
      simp_all [Memory.read]
  | cons c rest ih =>
    have hc := hm
    simp only [Memory.wfAbove, Bool.and_eq_true, decide_eq_true_eq] at hc
    cases n with
    | nil =>
      have := h c.1
      simp_all [Memory.read]
    | cons d tail =>
      have hd := hn
      simp only [Memory.wfAbove, Bool.and_eq_true, decide_eq_true_eq] at hd
      have hcd : c.1 = d.1 := by
        rcases Nat.lt_trichotomy c.1 d.1 with hlt | heq | hgt
        · have h1 := h c.1
          simp only [Memory.read, if_true, show ¬ d.1 = c.1 by omega, if_false] at h1
          rw [Memory.read_of_wfAbove hd.2 (by omega)] at h1
          simp_all
        · exact heq
        · have h1 := h d.1
          simp only [Memory.read, if_true, show ¬ c.1 = d.1 by omega, if_false] at h1
          rw [Memory.read_of_wfAbove hc.2 (by omega)] at h1
          simp_all
      have hv : c.2 = d.2 := by
        have h1 := h c.1
        simpa [Memory.read, hcd] using h1
      have htail : rest = tail := by
        apply ih hc.2 hd.2
        intro k
        by_cases hk : c.1 = k
        · rw [Memory.read_of_wfAbove hc.2 (by omega), Memory.read_of_wfAbove hd.2 (by omega)]
        · have h1 := h k
          simpa [Memory.read, hk, show ¬ d.1 = k by omega] using h1
      rw [htail, Prod.ext hcd hv]

theorem Memory.exists_wfAbove {m : Memory} (h : Memory.wf m = true) : m = [] ∨ ∃ c rest,
    m = c :: rest ∧ c.2 ≠ Memory.unlisted ∧ Memory.wfAbove c.1 rest = true := by
  cases m with
  | nil => exact .inl rfl
  | cons c rest =>
    simp only [Memory.wf, Bool.and_eq_true, bne_iff_ne, ne_eq] at h
    exact .inr ⟨c, rest, rfl, h.1, h.2⟩

/-- Two canonical memories that read the same are the same list. -/
theorem Memory.ext_of_wf {m n : Memory} (hm : Memory.wf m = true) (hn : Memory.wf n = true)
    (h : ∀ k, Memory.read m k = Memory.read n k) : m = n := by
  rcases Memory.exists_wfAbove hm with rfl | ⟨c, rest, rfl, hc, hrest⟩ <;>
    rcases Memory.exists_wfAbove hn with rfl | ⟨d, tail, rfl, hd, htail⟩
  · rfl
  · have := h d.1
    simp_all [Memory.read]
  · have := h c.1
    simp_all [Memory.read]
  · have hcd : c.1 = d.1 := by
      rcases Nat.lt_trichotomy c.1 d.1 with hlt | heq | hgt
      · have h1 := h c.1
        simp only [Memory.read, if_true, show ¬ d.1 = c.1 by omega, if_false] at h1
        rw [Memory.read_of_wfAbove htail (by omega)] at h1
        simp_all
      · exact heq
      · have h1 := h d.1
        simp only [Memory.read, if_true, show ¬ c.1 = d.1 by omega, if_false] at h1
        rw [Memory.read_of_wfAbove hrest (by omega)] at h1
        simp_all
    have hv : c.2 = d.2 := by simpa [Memory.read, hcd] using h c.1
    have htl : rest = tail := by
      apply Memory.ext_wfAbove hrest htail
      intro k
      by_cases hk : c.1 = k
      · rw [Memory.read_of_wfAbove hrest (by omega), Memory.read_of_wfAbove htail (by omega)]
      · simpa [Memory.read, hk, show ¬ d.1 = k by omega] using h k
    rw [htl, Prod.ext hcd hv]

/-! ### Reads and writes with their range checked -/

/-- All that `memRead` can answer. -/
theorem State.memRead_eq_some {s : State} {sp : Space} {a n : Nat} {v : Vector Word n} :
    s.memRead sp a n = some v ↔
      a + n ≤ Space.size s.cfg sp ∧ v = Memory.readWords (s.memOf sp) a n := by
  simp [State.memRead, Space.holds, eq_comm]

/-- All that `memWrite` can answer. -/
theorem State.memWrite_eq_some {s t : State} {sp : Space} {a : Nat} {ws : List Word} :
    s.memWrite sp a ws = some t ↔
      a + ws.length ≤ Space.size s.cfg sp ∧ t = s.withMem sp (Memory.writeWords (s.memOf sp) a ws) := by
  simp [State.memWrite, Space.holds, eq_comm]

/-- The power-on memories are canonical. -/
theorem State.resetOf_memories_wf (c : Config) :
    Memory.wf (State.resetOf c).leafMem = true ∧ Memory.wf (State.resetOf c).nodeMem = true := ⟨rfl, rfl⟩

end Sys2Proof.Machine
end

