-- ==== Sys2Proof/Laws/State.lean ====
section
/-! SUPPORT. One lemma per field per named update of the state, of a lane and of a lane's buffers. -/

namespace Sys2Proof.Machine

/-! ### `setLane` -/

@[simp] theorem State.setLane_cfg (s : State) (i : Nat) (l : Lane) : (s.setLane i l).cfg = s.cfg := rfl
@[simp] theorem State.setLane_leafCnt (s : State) (i : Nat) (l : Lane) : (s.setLane i l).leafCnt = s.leafCnt := rfl
@[simp] theorem State.setLane_inWords (s : State) (i : Nat) (l : Lane) : (s.setLane i l).inWords = s.inWords := rfl
@[simp] theorem State.setLane_outWords (s : State) (i : Nat) (l : Lane) : (s.setLane i l).outWords = s.outWords := rfl
@[simp] theorem State.setLane_fsm (s : State) (i : Nat) (l : Lane) : (s.setLane i l).fsm = s.fsm := rfl
@[simp] theorem State.setLane_curLevel (s : State) (i : Nat) (l : Lane) : (s.setLane i l).curLevel = s.curLevel := rfl
@[simp] theorem State.setLane_dispatched (s : State) (i : Nat) (l : Lane) : (s.setLane i l).dispatched = s.dispatched := rfl
@[simp] theorem State.setLane_errCode (s : State) (i : Nat) (l : Lane) : (s.setLane i l).errCode = s.errCode := rfl
@[simp] theorem State.setLane_lanes (s : State) (i : Nat) (l : Lane) : (s.setLane i l).lanes = s.lanes.set i l := rfl
@[simp] theorem State.setLane_leafMem (s : State) (i : Nat) (l : Lane) : (s.setLane i l).leafMem = s.leafMem := rfl
@[simp] theorem State.setLane_nodeMem (s : State) (i : Nat) (l : Lane) : (s.setLane i l).nodeMem = s.nodeMem := rfl
@[simp] theorem State.setLane_inputs (s : State) (i : Nat) (l : Lane) : (s.setLane i l).inputs = s.inputs := rfl
@[simp] theorem State.setLane_rdata (s : State) (i : Nat) (l : Lane) : (s.setLane i l).rdata = s.rdata := rfl
@[simp] theorem State.setLane_xferData (s : State) (i : Nat) (l : Lane) : (s.setLane i l).xferData = s.xferData := rfl
@[simp] theorem State.setLane_history (s : State) (i : Nat) (l : Lane) : (s.setLane i l).history = s.history := rfl
@[simp] theorem State.setLane_turn (s : State) (i : Nat) (l : Lane) : (s.setLane i l).turn = s.turn := rfl
@[simp] theorem State.setLane_resets (s : State) (i : Nat) (l : Lane) : (s.setLane i l).resets = s.resets := rfl

/-! ### `start` -/

@[simp] theorem State.start_cfg (s : State) : (s.start).cfg = s.cfg := rfl
@[simp] theorem State.start_leafCnt (s : State) : (s.start).leafCnt = s.leafCnt := rfl
@[simp] theorem State.start_inWords (s : State) : (s.start).inWords = s.inWords := rfl
@[simp] theorem State.start_outWords (s : State) : (s.start).outWords = s.outWords := rfl
@[simp] theorem State.start_fsm (s : State) : (s.start).fsm = .leafLevel := rfl
@[simp] theorem State.start_curLevel (s : State) : (s.start).curLevel = 0#5 := rfl
@[simp] theorem State.start_dispatched (s : State) : (s.start).dispatched = false := rfl
@[simp] theorem State.start_errCode (s : State) : (s.start).errCode = .none := rfl
@[simp] theorem State.start_lanes (s : State) : (s.start).lanes = s.lanes := rfl
@[simp] theorem State.start_leafMem (s : State) : (s.start).leafMem = s.leafMem := rfl
@[simp] theorem State.start_nodeMem (s : State) : (s.start).nodeMem = s.nodeMem := rfl
@[simp] theorem State.start_inputs (s : State) : (s.start).inputs = s.inputs := rfl
@[simp] theorem State.start_rdata (s : State) : (s.start).rdata = s.rdata := rfl
@[simp] theorem State.start_xferData (s : State) : (s.start).xferData = s.xferData := rfl
@[simp] theorem State.start_history (s : State) : (s.start).history = s.history := rfl
@[simp] theorem State.start_turn (s : State) : (s.start).turn = s.turn := rfl
@[simp] theorem State.start_resets (s : State) : (s.start).resets = s.resets := rfl

/-! ### `raiseError` -/

@[simp] theorem State.raiseError_cfg (s : State) (c : ErrCode) : (s.raiseError c).cfg = s.cfg := rfl
@[simp] theorem State.raiseError_leafCnt (s : State) (c : ErrCode) : (s.raiseError c).leafCnt = s.leafCnt := rfl
@[simp] theorem State.raiseError_inWords (s : State) (c : ErrCode) : (s.raiseError c).inWords = s.inWords := rfl
@[simp] theorem State.raiseError_outWords (s : State) (c : ErrCode) : (s.raiseError c).outWords = s.outWords := rfl
@[simp] theorem State.raiseError_fsm (s : State) (c : ErrCode) : (s.raiseError c).fsm = .error := rfl
@[simp] theorem State.raiseError_curLevel (s : State) (c : ErrCode) : (s.raiseError c).curLevel = 0#5 := rfl
@[simp] theorem State.raiseError_dispatched (s : State) (c : ErrCode) : (s.raiseError c).dispatched = false := rfl
@[simp] theorem State.raiseError_errCode (s : State) (c : ErrCode) : (s.raiseError c).errCode = c := rfl
@[simp] theorem State.raiseError_lanes (s : State) (c : ErrCode) : (s.raiseError c).lanes = s.lanes := rfl
@[simp] theorem State.raiseError_leafMem (s : State) (c : ErrCode) : (s.raiseError c).leafMem = s.leafMem := rfl
@[simp] theorem State.raiseError_nodeMem (s : State) (c : ErrCode) : (s.raiseError c).nodeMem = s.nodeMem := rfl
@[simp] theorem State.raiseError_inputs (s : State) (c : ErrCode) : (s.raiseError c).inputs = s.inputs := rfl
@[simp] theorem State.raiseError_rdata (s : State) (c : ErrCode) : (s.raiseError c).rdata = s.rdata := rfl
@[simp] theorem State.raiseError_xferData (s : State) (c : ErrCode) : (s.raiseError c).xferData = s.xferData := rfl
@[simp] theorem State.raiseError_history (s : State) (c : ErrCode) : (s.raiseError c).history = s.history := rfl
@[simp] theorem State.raiseError_turn (s : State) (c : ErrCode) : (s.raiseError c).turn = s.turn := rfl
@[simp] theorem State.raiseError_resets (s : State) (c : ErrCode) : (s.raiseError c).resets = s.resets := rfl

/-! ### `resetBlock` -/

@[simp] theorem State.resetBlock_cfg (s : State) : (s.resetBlock).cfg = s.cfg := rfl
@[simp] theorem State.resetBlock_leafCnt (s : State) : (s.resetBlock).leafCnt = 0#32 := rfl
@[simp] theorem State.resetBlock_inWords (s : State) : (s.resetBlock).inWords = 0#32 := rfl
@[simp] theorem State.resetBlock_outWords (s : State) : (s.resetBlock).outWords = 0#32 := rfl
@[simp] theorem State.resetBlock_fsm (s : State) : (s.resetBlock).fsm = .idle := rfl
@[simp] theorem State.resetBlock_curLevel (s : State) : (s.resetBlock).curLevel = 0#5 := rfl
@[simp] theorem State.resetBlock_dispatched (s : State) : (s.resetBlock).dispatched = false := rfl
@[simp] theorem State.resetBlock_errCode (s : State) : (s.resetBlock).errCode = .none := rfl
@[simp] theorem State.resetBlock_lanes (s : State) : (s.resetBlock).lanes = s.lanes.mapIdx (fun i _ => Lane.resetWith (freeBuffers s.resets i)) := rfl
@[simp] theorem State.resetBlock_leafMem (s : State) : (s.resetBlock).leafMem = s.leafMem := rfl
@[simp] theorem State.resetBlock_nodeMem (s : State) : (s.resetBlock).nodeMem = s.nodeMem := rfl
@[simp] theorem State.resetBlock_inputs (s : State) : (s.resetBlock).inputs = s.inputs := rfl
@[simp] theorem State.resetBlock_rdata (s : State) : (s.resetBlock).rdata = s.rdata := rfl
@[simp] theorem State.resetBlock_xferData (s : State) : (s.resetBlock).xferData = s.xferData := rfl
@[simp] theorem State.resetBlock_history (s : State) : (s.resetBlock).history = s.history := rfl
@[simp] theorem State.resetBlock_turn (s : State) : (s.resetBlock).turn = s.turn := rfl
@[simp] theorem State.resetBlock_resets (s : State) : (s.resetBlock).resets = s.resets + 1 := rfl

/-! ### `checkPassed` -/

@[simp] theorem State.checkPassed_cfg (s : State) : (s.checkPassed).cfg = s.cfg := rfl
@[simp] theorem State.checkPassed_leafCnt (s : State) : (s.checkPassed).leafCnt = s.leafCnt := rfl
@[simp] theorem State.checkPassed_inWords (s : State) : (s.checkPassed).inWords = s.inWords := rfl
@[simp] theorem State.checkPassed_outWords (s : State) : (s.checkPassed).outWords = s.outWords := rfl
@[simp] theorem State.checkPassed_fsm (s : State) : (s.checkPassed).fsm = if Nat.log2 s.leaves = 1 then .root else .internalLevel := rfl
@[simp] theorem State.checkPassed_curLevel (s : State) : (s.checkPassed).curLevel = 0#5 := rfl
@[simp] theorem State.checkPassed_dispatched (s : State) : (s.checkPassed).dispatched = false := rfl
@[simp] theorem State.checkPassed_errCode (s : State) : (s.checkPassed).errCode = s.errCode := rfl
@[simp] theorem State.checkPassed_lanes (s : State) : (s.checkPassed).lanes = s.lanes := rfl
@[simp] theorem State.checkPassed_leafMem (s : State) : (s.checkPassed).leafMem = s.leafMem := rfl
@[simp] theorem State.checkPassed_nodeMem (s : State) : (s.checkPassed).nodeMem = s.nodeMem := rfl
@[simp] theorem State.checkPassed_inputs (s : State) : (s.checkPassed).inputs = s.inputs := rfl
@[simp] theorem State.checkPassed_rdata (s : State) : (s.checkPassed).rdata = s.rdata := rfl
@[simp] theorem State.checkPassed_xferData (s : State) : (s.checkPassed).xferData = s.xferData := rfl
@[simp] theorem State.checkPassed_history (s : State) : (s.checkPassed).history = s.history := rfl
@[simp] theorem State.checkPassed_turn (s : State) : (s.checkPassed).turn = s.turn := rfl
@[simp] theorem State.checkPassed_resets (s : State) : (s.checkPassed).resets = s.resets := rfl

/-! ### `fetched` -/

@[simp] theorem State.fetched_cfg (s : State) (i : Instr) (data : Word) (rest : List Input) : (s.fetched i data rest).cfg = s.cfg := rfl
@[simp] theorem State.fetched_leafCnt (s : State) (i : Instr) (data : Word) (rest : List Input) : (s.fetched i data rest).leafCnt = s.leafCnt := rfl
@[simp] theorem State.fetched_inWords (s : State) (i : Instr) (data : Word) (rest : List Input) : (s.fetched i data rest).inWords = s.inWords := rfl
@[simp] theorem State.fetched_outWords (s : State) (i : Instr) (data : Word) (rest : List Input) : (s.fetched i data rest).outWords = s.outWords := rfl
@[simp] theorem State.fetched_fsm (s : State) (i : Instr) (data : Word) (rest : List Input) : (s.fetched i data rest).fsm = s.fsm := rfl
@[simp] theorem State.fetched_curLevel (s : State) (i : Instr) (data : Word) (rest : List Input) : (s.fetched i data rest).curLevel = s.curLevel := rfl
@[simp] theorem State.fetched_dispatched (s : State) (i : Instr) (data : Word) (rest : List Input) : (s.fetched i data rest).dispatched = s.dispatched := rfl
@[simp] theorem State.fetched_errCode (s : State) (i : Instr) (data : Word) (rest : List Input) : (s.fetched i data rest).errCode = s.errCode := rfl
@[simp] theorem State.fetched_lanes (s : State) (i : Instr) (data : Word) (rest : List Input) : (s.fetched i data rest).lanes = s.lanes := rfl
@[simp] theorem State.fetched_leafMem (s : State) (i : Instr) (data : Word) (rest : List Input) : (s.fetched i data rest).leafMem = s.leafMem := rfl
@[simp] theorem State.fetched_nodeMem (s : State) (i : Instr) (data : Word) (rest : List Input) : (s.fetched i data rest).nodeMem = s.nodeMem := rfl
@[simp] theorem State.fetched_inputs (s : State) (i : Instr) (data : Word) (rest : List Input) : (s.fetched i data rest).inputs = rest := rfl
@[simp] theorem State.fetched_rdata (s : State) (i : Instr) (data : Word) (rest : List Input) : (s.fetched i data rest).rdata = s.rdata := rfl
@[simp] theorem State.fetched_xferData (s : State) (i : Instr) (data : Word) (rest : List Input) : (s.fetched i data rest).xferData = s.xferData := rfl
@[simp] theorem State.fetched_history (s : State) (i : Instr) (data : Word) (rest : List Input) : (s.fetched i data rest).history = if enabled i s then eventAt i data s :: s.history else s.history := rfl
@[simp] theorem State.fetched_turn (s : State) (i : Instr) (data : Word) (rest : List Input) : (s.fetched i data rest).turn = s.turn := rfl
@[simp] theorem State.fetched_resets (s : State) (i : Instr) (data : Word) (rest : List Input) : (s.fetched i data rest).resets = s.resets := rfl

/-! ### `Lane.pairRead` -/

@[simp] theorem Lane.pairRead_cmdValid (l : Lane) (p : SiblingPair) : (l.pairRead p).cmdValid = l.cmdValid := rfl
@[simp] theorem Lane.pairRead_cmdLevel (l : Lane) (p : SiblingPair) : (l.pairRead p).cmdLevel = l.cmdLevel := rfl
@[simp] theorem Lane.pairRead_cmdCount (l : Lane) (p : SiblingPair) : (l.pairRead p).cmdCount = l.cmdCount := rfl
@[simp] theorem Lane.pairRead_prdK (l : Lane) (p : SiblingPair) : (l.pairRead p).prdK = l.prdK := rfl
@[simp] theorem Lane.pairRead_prdPhase (l : Lane) (p : SiblingPair) : (l.pairRead p).prdPhase = .pad := rfl
@[simp] theorem Lane.pairRead_engPhase (l : Lane) (p : SiblingPair) : (l.pairRead p).engPhase = l.engPhase := rfl
@[simp] theorem Lane.pairRead_cnsK (l : Lane) (p : SiblingPair) : (l.pairRead p).cnsK = l.cnsK := rfl
@[simp] theorem Lane.pairRead_cnsPhase (l : Lane) (p : SiblingPair) : (l.pairRead p).cnsPhase = l.cnsPhase := rfl
@[simp] theorem Lane.pairRead_done (l : Lane) (p : SiblingPair) : (l.pairRead p).done = l.done := rfl
@[simp] theorem Lane.pairRead_req (l : Lane) (p : SiblingPair) : (l.pairRead p).req = l.req := rfl
@[simp] theorem Lane.pairRead_rsp (l : Lane) (p : SiblingPair) : (l.pairRead p).rsp = l.rsp := rfl
@[simp] theorem Lane.pairRead_pb (l : Lane) (p : SiblingPair) : (l.pairRead p).buf.pb = p := rfl
@[simp] theorem Lane.pairRead_bb (l : Lane) (p : SiblingPair) : (l.pairRead p).buf.bb = l.buf.bb := rfl
@[simp] theorem Lane.pairRead_eb (l : Lane) (p : SiblingPair) : (l.pairRead p).buf.eb = l.buf.eb := rfl
@[simp] theorem Lane.pairRead_ed (l : Lane) (p : SiblingPair) : (l.pairRead p).buf.ed = l.buf.ed := rfl
@[simp] theorem Lane.pairRead_db (l : Lane) (p : SiblingPair) : (l.pairRead p).buf.db = l.buf.db := rfl
@[simp] theorem Lane.pairRead_dp (l : Lane) (p : SiblingPair) : (l.pairRead p).buf.dp = l.buf.dp := rfl

/-! ### `Lane.padded` -/

@[simp] theorem Lane.padded_cmdValid (l : Lane) : (l.padded).cmdValid = l.cmdValid := rfl
@[simp] theorem Lane.padded_cmdLevel (l : Lane) : (l.padded).cmdLevel = l.cmdLevel := rfl
@[simp] theorem Lane.padded_cmdCount (l : Lane) : (l.padded).cmdCount = l.cmdCount := rfl
@[simp] theorem Lane.padded_prdK (l : Lane) : (l.padded).prdK = l.prdK := rfl
@[simp] theorem Lane.padded_prdPhase (l : Lane) : (l.padded).prdPhase = .send := rfl
@[simp] theorem Lane.padded_engPhase (l : Lane) : (l.padded).engPhase = l.engPhase := rfl
@[simp] theorem Lane.padded_cnsK (l : Lane) : (l.padded).cnsK = l.cnsK := rfl
@[simp] theorem Lane.padded_cnsPhase (l : Lane) : (l.padded).cnsPhase = l.cnsPhase := rfl
@[simp] theorem Lane.padded_done (l : Lane) : (l.padded).done = l.done := rfl
@[simp] theorem Lane.padded_req (l : Lane) : (l.padded).req = l.req := rfl
@[simp] theorem Lane.padded_rsp (l : Lane) : (l.padded).rsp = l.rsp := rfl
@[simp] theorem Lane.padded_pb (l : Lane) : (l.padded).buf.pb = l.buf.pb := by simp only [Lane.padded]
@[simp] theorem Lane.padded_bb (l : Lane) : (l.padded).buf.bb = pad l.buf.pb := by simp only [Lane.padded]
@[simp] theorem Lane.padded_eb (l : Lane) : (l.padded).buf.eb = l.buf.eb := by simp only [Lane.padded]
@[simp] theorem Lane.padded_ed (l : Lane) : (l.padded).buf.ed = l.buf.ed := by simp only [Lane.padded]
@[simp] theorem Lane.padded_db (l : Lane) : (l.padded).buf.db = l.buf.db := by simp only [Lane.padded]
@[simp] theorem Lane.padded_dp (l : Lane) : (l.padded).buf.dp = l.buf.dp := by simp only [Lane.padded]

/-! ### `Lane.blockSent` -/

@[simp] theorem Lane.blockSent_cmdValid (l : Lane) : (l.blockSent).cmdValid = l.cmdValid := rfl
@[simp] theorem Lane.blockSent_cmdLevel (l : Lane) : (l.blockSent).cmdLevel = l.cmdLevel := rfl
@[simp] theorem Lane.blockSent_cmdCount (l : Lane) : (l.blockSent).cmdCount = l.cmdCount := rfl
@[simp] theorem Lane.blockSent_prdK (l : Lane) : (l.blockSent).prdK = l.prdK + 1#32 := rfl
@[simp] theorem Lane.blockSent_prdPhase (l : Lane) : (l.blockSent).prdPhase = .read := rfl
@[simp] theorem Lane.blockSent_engPhase (l : Lane) : (l.blockSent).engPhase = l.engPhase := rfl
@[simp] theorem Lane.blockSent_cnsK (l : Lane) : (l.blockSent).cnsK = l.cnsK := rfl
@[simp] theorem Lane.blockSent_cnsPhase (l : Lane) : (l.blockSent).cnsPhase = l.cnsPhase := rfl
@[simp] theorem Lane.blockSent_done (l : Lane) : (l.blockSent).done = l.done := rfl
@[simp] theorem Lane.blockSent_req (l : Lane) : (l.blockSent).req = l.req ++ [l.buf.bb] := rfl
@[simp] theorem Lane.blockSent_rsp (l : Lane) : (l.blockSent).rsp = l.rsp := rfl
@[simp] theorem Lane.blockSent_pb (l : Lane) : (l.blockSent).buf.pb = l.buf.pb := rfl
@[simp] theorem Lane.blockSent_bb (l : Lane) : (l.blockSent).buf.bb = l.buf.bb := rfl
@[simp] theorem Lane.blockSent_eb (l : Lane) : (l.blockSent).buf.eb = l.buf.eb := rfl
@[simp] theorem Lane.blockSent_ed (l : Lane) : (l.blockSent).buf.ed = l.buf.ed := rfl
@[simp] theorem Lane.blockSent_db (l : Lane) : (l.blockSent).buf.db = l.buf.db := rfl
@[simp] theorem Lane.blockSent_dp (l : Lane) : (l.blockSent).buf.dp = l.buf.dp := rfl

/-! ### `Lane.blockTaken` -/

@[simp] theorem Lane.blockTaken_cmdValid (l : Lane) (b : PaddedBlock) (rest : List PaddedBlock) : (l.blockTaken b rest).cmdValid = l.cmdValid := rfl
@[simp] theorem Lane.blockTaken_cmdLevel (l : Lane) (b : PaddedBlock) (rest : List PaddedBlock) : (l.blockTaken b rest).cmdLevel = l.cmdLevel := rfl
@[simp] theorem Lane.blockTaken_cmdCount (l : Lane) (b : PaddedBlock) (rest : List PaddedBlock) : (l.blockTaken b rest).cmdCount = l.cmdCount := rfl
@[simp] theorem Lane.blockTaken_prdK (l : Lane) (b : PaddedBlock) (rest : List PaddedBlock) : (l.blockTaken b rest).prdK = l.prdK := rfl
@[simp] theorem Lane.blockTaken_prdPhase (l : Lane) (b : PaddedBlock) (rest : List PaddedBlock) : (l.blockTaken b rest).prdPhase = l.prdPhase := rfl
@[simp] theorem Lane.blockTaken_engPhase (l : Lane) (b : PaddedBlock) (rest : List PaddedBlock) : (l.blockTaken b rest).engPhase = .compute := rfl
@[simp] theorem Lane.blockTaken_cnsK (l : Lane) (b : PaddedBlock) (rest : List PaddedBlock) : (l.blockTaken b rest).cnsK = l.cnsK := rfl
@[simp] theorem Lane.blockTaken_cnsPhase (l : Lane) (b : PaddedBlock) (rest : List PaddedBlock) : (l.blockTaken b rest).cnsPhase = l.cnsPhase := rfl
@[simp] theorem Lane.blockTaken_done (l : Lane) (b : PaddedBlock) (rest : List PaddedBlock) : (l.blockTaken b rest).done = l.done := rfl
@[simp] theorem Lane.blockTaken_req (l : Lane) (b : PaddedBlock) (rest : List PaddedBlock) : (l.blockTaken b rest).req = rest := rfl
@[simp] theorem Lane.blockTaken_rsp (l : Lane) (b : PaddedBlock) (rest : List PaddedBlock) : (l.blockTaken b rest).rsp = l.rsp := rfl
@[simp] theorem Lane.blockTaken_pb (l : Lane) (b : PaddedBlock) (rest : List PaddedBlock) : (l.blockTaken b rest).buf.pb = l.buf.pb := rfl
@[simp] theorem Lane.blockTaken_bb (l : Lane) (b : PaddedBlock) (rest : List PaddedBlock) : (l.blockTaken b rest).buf.bb = l.buf.bb := rfl
@[simp] theorem Lane.blockTaken_eb (l : Lane) (b : PaddedBlock) (rest : List PaddedBlock) : (l.blockTaken b rest).buf.eb = b := rfl
@[simp] theorem Lane.blockTaken_ed (l : Lane) (b : PaddedBlock) (rest : List PaddedBlock) : (l.blockTaken b rest).buf.ed = l.buf.ed := rfl
@[simp] theorem Lane.blockTaken_db (l : Lane) (b : PaddedBlock) (rest : List PaddedBlock) : (l.blockTaken b rest).buf.db = l.buf.db := rfl
@[simp] theorem Lane.blockTaken_dp (l : Lane) (b : PaddedBlock) (rest : List PaddedBlock) : (l.blockTaken b rest).buf.dp = l.buf.dp := rfl

/-! ### `Lane.compressed` -/

@[simp] theorem Lane.compressed_cmdValid (l : Lane) : (l.compressed).cmdValid = l.cmdValid := rfl
@[simp] theorem Lane.compressed_cmdLevel (l : Lane) : (l.compressed).cmdLevel = l.cmdLevel := rfl
@[simp] theorem Lane.compressed_cmdCount (l : Lane) : (l.compressed).cmdCount = l.cmdCount := rfl
@[simp] theorem Lane.compressed_prdK (l : Lane) : (l.compressed).prdK = l.prdK := rfl
@[simp] theorem Lane.compressed_prdPhase (l : Lane) : (l.compressed).prdPhase = l.prdPhase := rfl
@[simp] theorem Lane.compressed_engPhase (l : Lane) : (l.compressed).engPhase = .out := rfl
@[simp] theorem Lane.compressed_cnsK (l : Lane) : (l.compressed).cnsK = l.cnsK := rfl
@[simp] theorem Lane.compressed_cnsPhase (l : Lane) : (l.compressed).cnsPhase = l.cnsPhase := rfl
@[simp] theorem Lane.compressed_done (l : Lane) : (l.compressed).done = l.done := rfl
@[simp] theorem Lane.compressed_req (l : Lane) : (l.compressed).req = l.req := rfl
@[simp] theorem Lane.compressed_rsp (l : Lane) : (l.compressed).rsp = l.rsp := rfl
@[simp] theorem Lane.compressed_pb (l : Lane) : (l.compressed).buf.pb = l.buf.pb := rfl
@[simp] theorem Lane.compressed_bb (l : Lane) : (l.compressed).buf.bb = l.buf.bb := rfl
@[simp] theorem Lane.compressed_eb (l : Lane) : (l.compressed).buf.eb = l.buf.eb := rfl
@[simp] theorem Lane.compressed_ed (l : Lane) : (l.compressed).buf.ed = compress l.buf.eb := rfl
@[simp] theorem Lane.compressed_db (l : Lane) : (l.compressed).buf.db = l.buf.db := rfl
@[simp] theorem Lane.compressed_dp (l : Lane) : (l.compressed).buf.dp = datapathAfter l.buf.eb := rfl

/-! ### `Lane.digestSent` -/

@[simp] theorem Lane.digestSent_cmdValid (l : Lane) : (l.digestSent).cmdValid = l.cmdValid := rfl
@[simp] theorem Lane.digestSent_cmdLevel (l : Lane) : (l.digestSent).cmdLevel = l.cmdLevel := rfl
@[simp] theorem Lane.digestSent_cmdCount (l : Lane) : (l.digestSent).cmdCount = l.cmdCount := rfl
@[simp] theorem Lane.digestSent_prdK (l : Lane) : (l.digestSent).prdK = l.prdK := rfl
@[simp] theorem Lane.digestSent_prdPhase (l : Lane) : (l.digestSent).prdPhase = l.prdPhase := rfl
@[simp] theorem Lane.digestSent_engPhase (l : Lane) : (l.digestSent).engPhase = .idle := rfl
@[simp] theorem Lane.digestSent_cnsK (l : Lane) : (l.digestSent).cnsK = l.cnsK := rfl
@[simp] theorem Lane.digestSent_cnsPhase (l : Lane) : (l.digestSent).cnsPhase = l.cnsPhase := rfl
@[simp] theorem Lane.digestSent_done (l : Lane) : (l.digestSent).done = l.done := rfl
@[simp] theorem Lane.digestSent_req (l : Lane) : (l.digestSent).req = l.req := rfl
@[simp] theorem Lane.digestSent_rsp (l : Lane) : (l.digestSent).rsp = l.rsp ++ [l.buf.ed] := rfl
@[simp] theorem Lane.digestSent_pb (l : Lane) : (l.digestSent).buf.pb = l.buf.pb := rfl
@[simp] theorem Lane.digestSent_bb (l : Lane) : (l.digestSent).buf.bb = l.buf.bb := rfl
@[simp] theorem Lane.digestSent_eb (l : Lane) : (l.digestSent).buf.eb = l.buf.eb := rfl
@[simp] theorem Lane.digestSent_ed (l : Lane) : (l.digestSent).buf.ed = l.buf.ed := rfl
@[simp] theorem Lane.digestSent_db (l : Lane) : (l.digestSent).buf.db = l.buf.db := rfl
@[simp] theorem Lane.digestSent_dp (l : Lane) : (l.digestSent).buf.dp = l.buf.dp := rfl

/-! ### `Lane.digestTaken` -/

@[simp] theorem Lane.digestTaken_cmdValid (l : Lane) (d : Digest) (rest : List Digest) : (l.digestTaken d rest).cmdValid = l.cmdValid := rfl
@[simp] theorem Lane.digestTaken_cmdLevel (l : Lane) (d : Digest) (rest : List Digest) : (l.digestTaken d rest).cmdLevel = l.cmdLevel := rfl
@[simp] theorem Lane.digestTaken_cmdCount (l : Lane) (d : Digest) (rest : List Digest) : (l.digestTaken d rest).cmdCount = l.cmdCount := rfl
@[simp] theorem Lane.digestTaken_prdK (l : Lane) (d : Digest) (rest : List Digest) : (l.digestTaken d rest).prdK = l.prdK := rfl
@[simp] theorem Lane.digestTaken_prdPhase (l : Lane) (d : Digest) (rest : List Digest) : (l.digestTaken d rest).prdPhase = l.prdPhase := rfl
@[simp] theorem Lane.digestTaken_engPhase (l : Lane) (d : Digest) (rest : List Digest) : (l.digestTaken d rest).engPhase = l.engPhase := rfl
@[simp] theorem Lane.digestTaken_cnsK (l : Lane) (d : Digest) (rest : List Digest) : (l.digestTaken d rest).cnsK = l.cnsK := rfl
@[simp] theorem Lane.digestTaken_cnsPhase (l : Lane) (d : Digest) (rest : List Digest) : (l.digestTaken d rest).cnsPhase = .write := rfl
@[simp] theorem Lane.digestTaken_done (l : Lane) (d : Digest) (rest : List Digest) : (l.digestTaken d rest).done = l.done := rfl
@[simp] theorem Lane.digestTaken_req (l : Lane) (d : Digest) (rest : List Digest) : (l.digestTaken d rest).req = l.req := rfl
@[simp] theorem Lane.digestTaken_rsp (l : Lane) (d : Digest) (rest : List Digest) : (l.digestTaken d rest).rsp = rest := rfl
@[simp] theorem Lane.digestTaken_pb (l : Lane) (d : Digest) (rest : List Digest) : (l.digestTaken d rest).buf.pb = l.buf.pb := rfl
@[simp] theorem Lane.digestTaken_bb (l : Lane) (d : Digest) (rest : List Digest) : (l.digestTaken d rest).buf.bb = l.buf.bb := rfl
@[simp] theorem Lane.digestTaken_eb (l : Lane) (d : Digest) (rest : List Digest) : (l.digestTaken d rest).buf.eb = l.buf.eb := rfl
@[simp] theorem Lane.digestTaken_ed (l : Lane) (d : Digest) (rest : List Digest) : (l.digestTaken d rest).buf.ed = l.buf.ed := rfl
@[simp] theorem Lane.digestTaken_db (l : Lane) (d : Digest) (rest : List Digest) : (l.digestTaken d rest).buf.db = d := rfl
@[simp] theorem Lane.digestTaken_dp (l : Lane) (d : Digest) (rest : List Digest) : (l.digestTaken d rest).buf.dp = l.buf.dp := rfl

/-! ### `Lane.nodeWritten` -/

@[simp] theorem Lane.nodeWritten_cmdValid (l : Lane) : (l.nodeWritten).cmdValid = l.cmdValid := rfl
@[simp] theorem Lane.nodeWritten_cmdLevel (l : Lane) : (l.nodeWritten).cmdLevel = l.cmdLevel := rfl
@[simp] theorem Lane.nodeWritten_cmdCount (l : Lane) : (l.nodeWritten).cmdCount = l.cmdCount := rfl
@[simp] theorem Lane.nodeWritten_prdK (l : Lane) : (l.nodeWritten).prdK = l.prdK := rfl
@[simp] theorem Lane.nodeWritten_prdPhase (l : Lane) : (l.nodeWritten).prdPhase = l.prdPhase := rfl
@[simp] theorem Lane.nodeWritten_engPhase (l : Lane) : (l.nodeWritten).engPhase = l.engPhase := rfl
@[simp] theorem Lane.nodeWritten_cnsK (l : Lane) : (l.nodeWritten).cnsK = l.cnsK + 1#32 := rfl
@[simp] theorem Lane.nodeWritten_cnsPhase (l : Lane) : (l.nodeWritten).cnsPhase = .recv := rfl
@[simp] theorem Lane.nodeWritten_done (l : Lane) : (l.nodeWritten).done = l.done := rfl
@[simp] theorem Lane.nodeWritten_req (l : Lane) : (l.nodeWritten).req = l.req := rfl
@[simp] theorem Lane.nodeWritten_rsp (l : Lane) : (l.nodeWritten).rsp = l.rsp := rfl
@[simp] theorem Lane.nodeWritten_pb (l : Lane) : (l.nodeWritten).buf.pb = l.buf.pb := rfl
@[simp] theorem Lane.nodeWritten_bb (l : Lane) : (l.nodeWritten).buf.bb = l.buf.bb := rfl
@[simp] theorem Lane.nodeWritten_eb (l : Lane) : (l.nodeWritten).buf.eb = l.buf.eb := rfl
@[simp] theorem Lane.nodeWritten_ed (l : Lane) : (l.nodeWritten).buf.ed = l.buf.ed := rfl
@[simp] theorem Lane.nodeWritten_db (l : Lane) : (l.nodeWritten).buf.db = l.buf.db := rfl
@[simp] theorem Lane.nodeWritten_dp (l : Lane) : (l.nodeWritten).buf.dp = l.buf.dp := rfl

/-! ### `Lane.committed` -/

@[simp] theorem Lane.committed_cmdValid (l : Lane) : (l.committed).cmdValid = l.cmdValid := rfl
@[simp] theorem Lane.committed_cmdLevel (l : Lane) : (l.committed).cmdLevel = l.cmdLevel := rfl
@[simp] theorem Lane.committed_cmdCount (l : Lane) : (l.committed).cmdCount = l.cmdCount := rfl
@[simp] theorem Lane.committed_prdK (l : Lane) : (l.committed).prdK = l.prdK := rfl
@[simp] theorem Lane.committed_prdPhase (l : Lane) : (l.committed).prdPhase = l.prdPhase := rfl
@[simp] theorem Lane.committed_engPhase (l : Lane) : (l.committed).engPhase = l.engPhase := rfl
@[simp] theorem Lane.committed_cnsK (l : Lane) : (l.committed).cnsK = l.cnsK := rfl
@[simp] theorem Lane.committed_cnsPhase (l : Lane) : (l.committed).cnsPhase = l.cnsPhase := rfl
@[simp] theorem Lane.committed_done (l : Lane) : (l.committed).done = true := rfl
@[simp] theorem Lane.committed_req (l : Lane) : (l.committed).req = l.req := rfl
@[simp] theorem Lane.committed_rsp (l : Lane) : (l.committed).rsp = l.rsp := rfl
@[simp] theorem Lane.committed_pb (l : Lane) : (l.committed).buf.pb = l.buf.pb := rfl
@[simp] theorem Lane.committed_bb (l : Lane) : (l.committed).buf.bb = l.buf.bb := rfl
@[simp] theorem Lane.committed_eb (l : Lane) : (l.committed).buf.eb = l.buf.eb := rfl
@[simp] theorem Lane.committed_ed (l : Lane) : (l.committed).buf.ed = l.buf.ed := rfl
@[simp] theorem Lane.committed_db (l : Lane) : (l.committed).buf.db = l.buf.db := rfl
@[simp] theorem Lane.committed_dp (l : Lane) : (l.committed).buf.dp = l.buf.dp := rfl

/-! ### `Lane.released` -/

@[simp] theorem Lane.released_cmdValid (l : Lane) : (l.released).cmdValid = false := rfl
@[simp] theorem Lane.released_cmdLevel (l : Lane) : (l.released).cmdLevel = l.cmdLevel := rfl
@[simp] theorem Lane.released_cmdCount (l : Lane) : (l.released).cmdCount = l.cmdCount := rfl
@[simp] theorem Lane.released_prdK (l : Lane) : (l.released).prdK = l.prdK := rfl
@[simp] theorem Lane.released_prdPhase (l : Lane) : (l.released).prdPhase = l.prdPhase := rfl
@[simp] theorem Lane.released_engPhase (l : Lane) : (l.released).engPhase = l.engPhase := rfl
@[simp] theorem Lane.released_cnsK (l : Lane) : (l.released).cnsK = l.cnsK := rfl
@[simp] theorem Lane.released_cnsPhase (l : Lane) : (l.released).cnsPhase = l.cnsPhase := rfl
@[simp] theorem Lane.released_done (l : Lane) : (l.released).done = false := rfl
@[simp] theorem Lane.released_req (l : Lane) : (l.released).req = l.req := rfl
@[simp] theorem Lane.released_rsp (l : Lane) : (l.released).rsp = l.rsp := rfl
@[simp] theorem Lane.released_pb (l : Lane) : (l.released).buf.pb = l.buf.pb := rfl
@[simp] theorem Lane.released_bb (l : Lane) : (l.released).buf.bb = l.buf.bb := rfl
@[simp] theorem Lane.released_eb (l : Lane) : (l.released).buf.eb = l.buf.eb := rfl
@[simp] theorem Lane.released_ed (l : Lane) : (l.released).buf.ed = l.buf.ed := rfl
@[simp] theorem Lane.released_db (l : Lane) : (l.released).buf.db = l.buf.db := rfl
@[simp] theorem Lane.released_dp (l : Lane) : (l.released).buf.dp = l.buf.dp := rfl

/-! ### `Lane.commandLane` -/

@[simp] theorem Lane.commandLane_cmdValid (l : Lane) (s : State) (i : Nat) : (s.commandLane i l).cmdValid = true := rfl
@[simp] theorem Lane.commandLane_cmdLevel (l : Lane) (s : State) (i : Nat) : (s.commandLane i l).cmdLevel = s.curLevel := rfl
@[simp] theorem Lane.commandLane_cmdCount (l : Lane) (s : State) (i : Nat) : (s.commandLane i l).cmdCount = BitVec.ofNat 32 (lanePairs (nodeCount s.leaves s.curLevel.toNat) s.cfg.lanes i) := rfl
@[simp] theorem Lane.commandLane_prdK (l : Lane) (s : State) (i : Nat) : (s.commandLane i l).prdK = 0#32 := rfl
@[simp] theorem Lane.commandLane_prdPhase (l : Lane) (s : State) (i : Nat) : (s.commandLane i l).prdPhase = .read := rfl
@[simp] theorem Lane.commandLane_engPhase (l : Lane) (s : State) (i : Nat) : (s.commandLane i l).engPhase = l.engPhase := rfl
@[simp] theorem Lane.commandLane_cnsK (l : Lane) (s : State) (i : Nat) : (s.commandLane i l).cnsK = 0#32 := rfl
@[simp] theorem Lane.commandLane_cnsPhase (l : Lane) (s : State) (i : Nat) : (s.commandLane i l).cnsPhase = .recv := rfl
@[simp] theorem Lane.commandLane_done (l : Lane) (s : State) (i : Nat) : (s.commandLane i l).done = false := rfl
@[simp] theorem Lane.commandLane_req (l : Lane) (s : State) (i : Nat) : (s.commandLane i l).req = l.req := rfl
@[simp] theorem Lane.commandLane_rsp (l : Lane) (s : State) (i : Nat) : (s.commandLane i l).rsp = l.rsp := rfl
@[simp] theorem Lane.commandLane_pb (l : Lane) (s : State) (i : Nat) : (s.commandLane i l).buf.pb = l.buf.pb := rfl
@[simp] theorem Lane.commandLane_bb (l : Lane) (s : State) (i : Nat) : (s.commandLane i l).buf.bb = l.buf.bb := rfl
@[simp] theorem Lane.commandLane_eb (l : Lane) (s : State) (i : Nat) : (s.commandLane i l).buf.eb = l.buf.eb := rfl
@[simp] theorem Lane.commandLane_ed (l : Lane) (s : State) (i : Nat) : (s.commandLane i l).buf.ed = l.buf.ed := rfl
@[simp] theorem Lane.commandLane_db (l : Lane) (s : State) (i : Nat) : (s.commandLane i l).buf.db = l.buf.db := rfl
@[simp] theorem Lane.commandLane_dp (l : Lane) (s : State) (i : Nat) : (s.commandLane i l).buf.dp = l.buf.dp := rfl

/-! ### `withMem` -/

@[simp] theorem State.withMem_cfg (s : State) (sp : Space) (m : Memory) : (s.withMem sp m).cfg = s.cfg := by
  cases sp <;> rfl
@[simp] theorem State.withMem_leafCnt (s : State) (sp : Space) (m : Memory) : (s.withMem sp m).leafCnt = s.leafCnt := by
  cases sp <;> rfl
@[simp] theorem State.withMem_inWords (s : State) (sp : Space) (m : Memory) : (s.withMem sp m).inWords = s.inWords := by
  cases sp <;> rfl
@[simp] theorem State.withMem_outWords (s : State) (sp : Space) (m : Memory) : (s.withMem sp m).outWords = s.outWords := by
  cases sp <;> rfl
@[simp] theorem State.withMem_fsm (s : State) (sp : Space) (m : Memory) : (s.withMem sp m).fsm = s.fsm := by
  cases sp <;> rfl
@[simp] theorem State.withMem_curLevel (s : State) (sp : Space) (m : Memory) : (s.withMem sp m).curLevel = s.curLevel := by
  cases sp <;> rfl
@[simp] theorem State.withMem_dispatched (s : State) (sp : Space) (m : Memory) : (s.withMem sp m).dispatched = s.dispatched := by
  cases sp <;> rfl
@[simp] theorem State.withMem_errCode (s : State) (sp : Space) (m : Memory) : (s.withMem sp m).errCode = s.errCode := by
  cases sp <;> rfl
@[simp] theorem State.withMem_lanes (s : State) (sp : Space) (m : Memory) : (s.withMem sp m).lanes = s.lanes := by
  cases sp <;> rfl
@[simp] theorem State.withMem_inputs (s : State) (sp : Space) (m : Memory) : (s.withMem sp m).inputs = s.inputs := by
  cases sp <;> rfl
@[simp] theorem State.withMem_rdata (s : State) (sp : Space) (m : Memory) : (s.withMem sp m).rdata = s.rdata := by
  cases sp <;> rfl
@[simp] theorem State.withMem_xferData (s : State) (sp : Space) (m : Memory) : (s.withMem sp m).xferData = s.xferData := by
  cases sp <;> rfl
@[simp] theorem State.withMem_history (s : State) (sp : Space) (m : Memory) : (s.withMem sp m).history = s.history := by
  cases sp <;> rfl
@[simp] theorem State.withMem_turn (s : State) (sp : Space) (m : Memory) : (s.withMem sp m).turn = s.turn := by
  cases sp <;> rfl
@[simp] theorem State.withMem_resets (s : State) (sp : Space) (m : Memory) : (s.withMem sp m).resets = s.resets := by
  cases sp <;> rfl

@[simp] theorem State.withMem_memOf (s : State) (sp : Space) (m : Memory) : (s.withMem sp m).memOf sp = m := by
  cases sp <;> rfl

@[simp] theorem State.withMem_node_leafMem (s : State) (m : Memory) : (s.withMem .node m).leafMem = s.leafMem := rfl
@[simp] theorem State.withMem_node_nodeMem (s : State) (m : Memory) : (s.withMem .node m).nodeMem = m := rfl
@[simp] theorem State.withMem_leaf_leafMem (s : State) (m : Memory) : (s.withMem .leaf m).leafMem = m := rfl
@[simp] theorem State.withMem_leaf_nodeMem (s : State) (m : Memory) : (s.withMem .leaf m).nodeMem = s.nodeMem := rfl

/-! ### `powerOn` -/

@[simp] theorem State.powerOn_cfg (c : Config) (bufs : Nat → LaneBuffers) (leaf node : Memory) :
    (State.powerOn c bufs leaf node).cfg = c := rfl
@[simp] theorem State.powerOn_leafCnt (c : Config) (bufs : Nat → LaneBuffers) (leaf node : Memory) :
    (State.powerOn c bufs leaf node).leafCnt = 0 := rfl
@[simp] theorem State.powerOn_inWords (c : Config) (bufs : Nat → LaneBuffers) (leaf node : Memory) :
    (State.powerOn c bufs leaf node).inWords = 0 := rfl
@[simp] theorem State.powerOn_outWords (c : Config) (bufs : Nat → LaneBuffers) (leaf node : Memory) :
    (State.powerOn c bufs leaf node).outWords = 0 := rfl
@[simp] theorem State.powerOn_fsm (c : Config) (bufs : Nat → LaneBuffers) (leaf node : Memory) :
    (State.powerOn c bufs leaf node).fsm = .idle := rfl
@[simp] theorem State.powerOn_curLevel (c : Config) (bufs : Nat → LaneBuffers) (leaf node : Memory) :
    (State.powerOn c bufs leaf node).curLevel = 0 := rfl
@[simp] theorem State.powerOn_dispatched (c : Config) (bufs : Nat → LaneBuffers) (leaf node : Memory) :
    (State.powerOn c bufs leaf node).dispatched = false := rfl
@[simp] theorem State.powerOn_errCode (c : Config) (bufs : Nat → LaneBuffers) (leaf node : Memory) :
    (State.powerOn c bufs leaf node).errCode = .none := rfl
@[simp] theorem State.powerOn_lanes (c : Config) (bufs : Nat → LaneBuffers) (leaf node : Memory) :
    (State.powerOn c bufs leaf node).lanes = (List.range c.lanes).map fun i => Lane.resetWith (bufs i) := rfl
@[simp] theorem State.powerOn_leafMem (c : Config) (bufs : Nat → LaneBuffers) (leaf node : Memory) :
    (State.powerOn c bufs leaf node).leafMem = leaf := rfl
@[simp] theorem State.powerOn_nodeMem (c : Config) (bufs : Nat → LaneBuffers) (leaf node : Memory) :
    (State.powerOn c bufs leaf node).nodeMem = node := rfl
@[simp] theorem State.powerOn_inputs (c : Config) (bufs : Nat → LaneBuffers) (leaf node : Memory) :
    (State.powerOn c bufs leaf node).inputs = [] := rfl
@[simp] theorem State.powerOn_rdata (c : Config) (bufs : Nat → LaneBuffers) (leaf node : Memory) :
    (State.powerOn c bufs leaf node).rdata = 0 := rfl
@[simp] theorem State.powerOn_xferData (c : Config) (bufs : Nat → LaneBuffers) (leaf node : Memory) :
    (State.powerOn c bufs leaf node).xferData = [] := rfl
@[simp] theorem State.powerOn_history (c : Config) (bufs : Nat → LaneBuffers) (leaf node : Memory) :
    (State.powerOn c bufs leaf node).history = [] := rfl
@[simp] theorem State.powerOn_turn (c : Config) (bufs : Nat → LaneBuffers) (leaf node : Memory) :
    (State.powerOn c bufs leaf node).turn = 0 := rfl
@[simp] theorem State.powerOn_resets (c : Config) (bufs : Nat → LaneBuffers) (leaf node : Memory) :
    (State.powerOn c bufs leaf node).resets = 0 := rfl

/-! ### Events -/

@[simp] theorem eventAt_code (i : Instr) (data : Word) (s : State) : (eventAt i data s).code = i.kind.code := rfl
@[simp] theorem eventAt_lane (i : Instr) (data : Word) (s : State) : (eventAt i data s).lane = i.lane?.getD 0#8 := rfl
@[simp] theorem eventAt_data (i : Instr) (data : Word) (s : State) : (eventAt i data s).data = eventData i data s := rfl

end Sys2Proof.Machine
end

