-- ==== Sys2Proof/Laws/Ops.lean ====
section
/-! SUPPORT. For each shared operation, all that it can do. -/

namespace Sys2Proof.Machine

/-- A wait answers the state as it is. -/
@[simp] theorem waits_eq (s : State) : waits s = .next s := rfl

/-- A Host read answers the state with the word returned, and nothing else changed. -/
@[simp] theorem hostRead_eq (idx : BitVec 4) (s : State) :
    hostRead idx s = .next { s with rdata := s.regRead idx } := rfl

/-- A Host write answers the register write's state. -/
@[simp] theorem hostWrite_eq (idx : BitVec 4) (data : Word) (s : State) :
    hostWrite idx data s = .next (s.regWrite idx data) := rfl

/-- All that a register write can do: START, one of the three configuration registers, or nothing. -/
theorem State.regWrite_cases (s : State) (idx : BitVec 4) (data : Word) :
    (idx = 0#4 ∧ data.getLsbD 0 = true ∧ s.busy = false ∧ s.regWrite idx data = s.start) ∨
    (idx = 2#4 ∧ s.busy = false ∧ s.regWrite idx data = { s with leafCnt := data }) ∨
    (idx = 3#4 ∧ s.busy = false ∧ s.regWrite idx data = { s with inWords := data }) ∨
    (idx = 4#4 ∧ s.busy = false ∧ s.regWrite idx data = { s with outWords := data }) ∨
    s.regWrite idx data = s := by
  have hidx (n : Nat) (hn : n < 16) (h : idx.toNat = n) : idx = BitVec.ofNat 4 n := by
    apply BitVec.eq_of_toNat_eq
    simp [h, Nat.mod_eq_of_lt hn]
  unfold State.regWrite
  split
  · rename_i h
    split
    · rename_i hg
      simp only [Bool.and_eq_true, Bool.not_eq_true'] at hg
      exact .inl ⟨hidx 0 (by omega) h, hg.1, hg.2, rfl⟩
    · exact .inr (.inr (.inr (.inr rfl)))
  · rename_i h
    cases hb : s.busy
    · exact .inr (.inl ⟨hidx 2 (by omega) h, rfl, rfl⟩)
    · exact .inr (.inr (.inr (.inr (by simp))))
  · rename_i h
    cases hb : s.busy
    · exact .inr (.inr (.inl ⟨hidx 3 (by omega) h, rfl, rfl⟩))
    · exact .inr (.inr (.inr (.inr (by simp))))
  · rename_i h
    cases hb : s.busy
    · exact .inr (.inr (.inr (.inl ⟨hidx 4 (by omega) h, rfl, rfl⟩)))
    · exact .inr (.inr (.inr (.inr (by simp))))
  · exact .inr (.inr (.inr (.inr rfl)))

/-- All that one step of a lane can do. -/
theorem laneStep_cases (i : BitVec 8) (s : State) (ready : Lane → Bool) (act : Lane → Result State) :
    (s.lanes[i.toNat]? = none ∧ laneStep i s ready act = .refused .noSuchLane) ∨
    (∃ l, s.lanes[i.toNat]? = some l ∧ ready l = false ∧ laneStep i s ready act = .next s) ∨
    (∃ l, s.lanes[i.toNat]? = some l ∧ ready l = true ∧ laneStep i s ready act = act l) := by
  unfold laneStep
  split
  · exact .inl ⟨‹_›, rfl⟩
  · rename_i l h
    cases hr : ready l
    · exact .inr (.inl ⟨l, h, hr, by simp⟩)
    · exact .inr (.inr ⟨l, h, hr, by simp⟩)

/-- A lane step whose condition holds does what the step does. -/
theorem laneStep_ready {i : BitVec 8} {s : State} {ready : Lane → Bool} {act : Lane → Result State} {l : Lane}
    (h : s.lanes[i.toNat]? = some l) (hr : ready l = true) : laneStep i s ready act = act l := by
  simp [laneStep, h, hr]

/-- A channel's first entry and the rest. -/
theorem chanRecv_eq_some {α : Type} {ch : List α} {v : α} {rest : List α} :
    chanRecv ch = some (v, rest) ↔ ch = v :: rest := by
  cases ch <;> simp [chanRecv]

/-- All that a Host write to a memory can do. -/
theorem hostStore_eq_next {sp : Space} {a : Nat} {ws : List Word} {s t : State}
    (h : hostStore sp a ws s = .next t) :
    s.busy = false ∧ a + ws.length ≤ Space.size s.cfg sp ∧
      t = s.withMem sp (Memory.writeWords (s.memOf sp) a ws) := by
  unfold hostStore at h
  split at h
  · cases h
  · rename_i hb
    split at h
    · rename_i hw
      cases h
      exact ⟨by simpa using hb, State.memWrite_eq_some.mp hw⟩
    · cases h

/-- All that a Host read of a memory can do. -/
theorem hostLoad_eq_next {sp : Space} {a n : Nat} {s t : State} (h : hostLoad sp a n s = .next t) :
    s.busy = false ∧ a + n ≤ Space.size s.cfg sp ∧
      t = { s with xferData := (Memory.readWords (s.memOf sp) a n).toList } := by
  unfold hostLoad at h
  split at h
  · cases h
  · rename_i hb
    split at h
    · rename_i hv
      cases h
      obtain ⟨hr, rfl⟩ := State.memRead_eq_some.mp hv
      exact ⟨by simpa using hb, hr, rfl⟩
    · cases h

/-- All that PRD_READ can do. -/
theorem execPrdRead_cases (i : BitVec 8) (s : State) :
    (s.lanes[i.toNat]? = none ∧ execPrdRead i s = .refused .noSuchLane) ∨
    (∃ l, s.lanes[i.toNat]? = some l ∧ l.readReady = false ∧ execPrdRead i s = .next s) ∨
    (∃ l, s.lanes[i.toNat]? = some l ∧ l.readReady = true ∧
      let q := s.readSource i.toNat l
      (q.2 + 16 ≤ Space.size s.cfg q.1 ∧
        execPrdRead i s = .next (s.setLane i.toNat (l.pairRead (Memory.readWords (s.memOf q.1) q.2 16)))) ∨
      (¬ q.2 + 16 ≤ Space.size s.cfg q.1 ∧ execPrdRead i s = .fault .addressOutOfRange)) := by
  rcases laneStep_cases i s Lane.readReady _ with h | h | ⟨l, hl, hr, h⟩
  · exact .inl h
  · exact .inr (.inl h)
  · refine .inr (.inr ⟨l, hl, hr, ?_⟩)
    by_cases hs : (s.readSource i.toNat l).2 + 16 ≤ Space.size s.cfg (s.readSource i.toNat l).1
    · refine .inl ⟨hs, h.trans ?_⟩
      rw [State.memRead_eq_some.mpr ⟨hs, rfl⟩]
    · refine .inr ⟨hs, h.trans ?_⟩
      simp [State.memRead, Space.holds, hs]

/-- All that CNS_WRITE can do. -/
theorem execCnsWrite_cases (i : BitVec 8) (s : State) :
    (s.lanes[i.toNat]? = none ∧ execCnsWrite i s = .refused .noSuchLane) ∨
    (∃ l, s.lanes[i.toNat]? = some l ∧ l.writeReady = false ∧ execCnsWrite i s = .next s) ∨
    (∃ l, s.lanes[i.toNat]? = some l ∧ l.writeReady = true ∧
      let a := s.writeTarget i.toNat l
      (a + 8 ≤ Space.size s.cfg .node ∧
        execCnsWrite i s = .next
          ((s.withMem .node (Memory.writeWords s.nodeMem a l.buf.db.toList)).setLane i.toNat l.nodeWritten)) ∨
      (¬ a + 8 ≤ Space.size s.cfg .node ∧ execCnsWrite i s = .fault .addressOutOfRange)) := by
  rcases laneStep_cases i s Lane.writeReady _ with h | h | ⟨l, hl, hr, h⟩
  · exact .inl h
  · exact .inr (.inl h)
  · refine .inr (.inr ⟨l, hl, hr, ?_⟩)
    by_cases hs : s.writeTarget i.toNat l + 8 ≤ Space.size s.cfg .node
    · refine .inl ⟨hs, h.trans ?_⟩
      rw [State.memWrite_eq_some.mpr ⟨by simpa using hs, rfl⟩]
      rfl
    · refine .inr ⟨hs, h.trans ?_⟩
      simp [State.memWrite, Space.holds, hs]

/-- All that the machine's step can do. -/
theorem step_cases (s : State) :
    (s.assertions = false ∧ step s = .fault .assertionFailed) ∨
    (s.assertions = true ∧ s.inputs = [] ∧ step s = s.freeTurn) ∨
    (∃ f rest e, s.assertions = true ∧ s.inputs = .frame f :: rest ∧ decode f = .error e ∧
      step s = .refused (.undecodable e)) ∨
    (∃ f rest i, s.assertions = true ∧ s.inputs = .frame f :: rest ∧ decode f = .ok i ∧
      step s = exec i (s.fetched i f.data rest)) ∨
    (∃ sp a ws rest, s.assertions = true ∧ s.inputs = .store sp a ws :: rest ∧
      step s = hostStore sp a ws { s with inputs := rest }) ∨
    (∃ sp a n rest, s.assertions = true ∧ s.inputs = .load sp a n :: rest ∧
      step s = hostLoad sp a n { s with inputs := rest }) := by
  cases ha : s.assertions with
  | false => exact .inl ⟨rfl, by simp [step, ha]⟩
  | true =>
    have hstep : step s = s.advance := by simp [step, ha]
    refine .inr ?_
    match hi : s.inputs with
    | [] => exact .inl ⟨rfl, rfl, by rw [hstep, State.advance, hi]⟩
    | .frame f :: rest =>
      match hd : decode f with
      | .error e =>
        exact .inr (.inl ⟨f, rest, e, rfl, rfl, hd, by rw [hstep, State.advance, hi]; simp only [State.runFrame, hd]⟩)
      | .ok i =>
        exact .inr (.inr (.inl ⟨f, rest, i, rfl, rfl, hd, by
          rw [hstep, State.advance, hi]; simp only [State.runFrame, hd]⟩))
    | .store sp a ws :: rest =>
      exact .inr (.inr (.inr (.inl ⟨sp, a, ws, rest, rfl, rfl, by rw [hstep, State.advance, hi]⟩)))
    | .load sp a n :: rest =>
      exact .inr (.inr (.inr (.inr ⟨sp, a, n, rest, rfl, rfl, by rw [hstep, State.advance, hi]⟩)))

end Sys2Proof.Machine
end

