-- ==== Sys2Proof/Laws/PerInstr.lean ====
section
/-! SUPPORT. Statements about every instruction as syntax, one lemma per constructor. -/

namespace Sys2Proof.Laws

/-- The code field of an instruction's event word is the code of its step kind, and names that kind again
(R124). -/
def EventCode.Statement (i : Instr) : Prop :=
  (eventWord i).extractLsb' 0 8 = i.kind.code ∧ StepKind.ofCode ((eventWord i).extractLsb' 0 8) = some i.kind

/-- A step kind's code names that kind. -/
theorem ofCode_code (k : StepKind) : StepKind.ofCode k.code = some k := by
  cases k <;> rfl

/-- The code field of an event word is its lowest byte. -/
theorem extract_code_eventOf (k : StepKind) (lane : BitVec 8) (idx : BitVec 4) (data : Word) :
    (eventOf k lane idx data).extractLsb' 0 8 = k.code := by
  apply BitVec.eq_of_getLsbD_eq
  intro j hj
  have h := BitVec.getLsbD_append (x := data ++ 0#4 ++ idx ++ lane) (y := k.code) (i := j)
  rw [BitVec.getLsbD_extractLsb']
  simp only [hj, decide_true, Bool.true_and, Nat.zero_add]
  exact h.trans (by simp [hj])

/-- What the family says of one instruction, from the layout of event words. -/
theorem eventCode_statement (i : Instr) : EventCode.Statement i := by
  have h : (eventWord i).extractLsb' 0 8 = i.kind.code := extract_code_eventOf _ _ _ _
  exact ⟨h, by rw [h]; exact ofCode_code _⟩

theorem EventCode.rdCtrl : EventCode.Statement .rdCtrl := eventCode_statement _
theorem EventCode.rdStatus : EventCode.Statement .rdStatus := eventCode_statement _
theorem EventCode.rdLeafCnt : EventCode.Statement .rdLeafCnt := eventCode_statement _
theorem EventCode.rdInWords : EventCode.Statement .rdInWords := eventCode_statement _
theorem EventCode.rdOutWords : EventCode.Statement .rdOutWords := eventCode_statement _
theorem EventCode.rdConfig : EventCode.Statement .rdConfig := eventCode_statement _
theorem EventCode.wrCtrl (start : BitVec 1) : EventCode.Statement (.wrCtrl start) := eventCode_statement _
theorem EventCode.wrStatus : EventCode.Statement .wrStatus := eventCode_statement _
theorem EventCode.wrLeafCnt (data : Word) : EventCode.Statement (.wrLeafCnt data) := eventCode_statement _
theorem EventCode.wrInWords (data : Word) : EventCode.Statement (.wrInWords data) := eventCode_statement _
theorem EventCode.wrOutWords (data : Word) : EventCode.Statement (.wrOutWords data) := eventCode_statement _
theorem EventCode.wrConfig : EventCode.Statement .wrConfig := eventCode_statement _
theorem EventCode.rdRsvd6 : EventCode.Statement .rdRsvd6 := eventCode_statement _
theorem EventCode.wrRsvd6 : EventCode.Statement .wrRsvd6 := eventCode_statement _
theorem EventCode.rdRsvd7 : EventCode.Statement .rdRsvd7 := eventCode_statement _
theorem EventCode.wrRsvd7 : EventCode.Statement .wrRsvd7 := eventCode_statement _
theorem EventCode.rdRsvd8 : EventCode.Statement .rdRsvd8 := eventCode_statement _
theorem EventCode.wrRsvd8 : EventCode.Statement .wrRsvd8 := eventCode_statement _
theorem EventCode.rdRsvd9 : EventCode.Statement .rdRsvd9 := eventCode_statement _
theorem EventCode.wrRsvd9 : EventCode.Statement .wrRsvd9 := eventCode_statement _
theorem EventCode.rdRsvd10 : EventCode.Statement .rdRsvd10 := eventCode_statement _
theorem EventCode.wrRsvd10 : EventCode.Statement .wrRsvd10 := eventCode_statement _
theorem EventCode.rdRsvd11 : EventCode.Statement .rdRsvd11 := eventCode_statement _
theorem EventCode.wrRsvd11 : EventCode.Statement .wrRsvd11 := eventCode_statement _
theorem EventCode.rdRsvd12 : EventCode.Statement .rdRsvd12 := eventCode_statement _
theorem EventCode.wrRsvd12 : EventCode.Statement .wrRsvd12 := eventCode_statement _
theorem EventCode.rdRsvd13 : EventCode.Statement .rdRsvd13 := eventCode_statement _
theorem EventCode.wrRsvd13 : EventCode.Statement .wrRsvd13 := eventCode_statement _
theorem EventCode.rdRsvd14 : EventCode.Statement .rdRsvd14 := eventCode_statement _
theorem EventCode.wrRsvd14 : EventCode.Statement .wrRsvd14 := eventCode_statement _
theorem EventCode.rdRsvd15 : EventCode.Statement .rdRsvd15 := eventCode_statement _
theorem EventCode.wrRsvd15 : EventCode.Statement .wrRsvd15 := eventCode_statement _
theorem EventCode.reset : EventCode.Statement .reset := eventCode_statement _
theorem EventCode.hostRd (idx : BitVec 4) : EventCode.Statement (.hostRd idx) := eventCode_statement _
theorem EventCode.hostWr (idx : BitVec 4) (data : Word) : EventCode.Statement (.hostWr idx data) := eventCode_statement _
theorem EventCode.orcCheck : EventCode.Statement .orcCheck := eventCode_statement _
theorem EventCode.orcDispatch : EventCode.Statement .orcDispatch := eventCode_statement _
theorem EventCode.orcJoin : EventCode.Statement .orcJoin := eventCode_statement _
theorem EventCode.prdRead (lane : BitVec 8) : EventCode.Statement (.prdRead lane) := eventCode_statement _
theorem EventCode.prdPad (lane : BitVec 8) : EventCode.Statement (.prdPad lane) := eventCode_statement _
theorem EventCode.prdSend (lane : BitVec 8) : EventCode.Statement (.prdSend lane) := eventCode_statement _
theorem EventCode.engRecv (lane : BitVec 8) : EventCode.Statement (.engRecv lane) := eventCode_statement _
theorem EventCode.engCompress (lane : BitVec 8) : EventCode.Statement (.engCompress lane) := eventCode_statement _
theorem EventCode.engSend (lane : BitVec 8) : EventCode.Statement (.engSend lane) := eventCode_statement _
theorem EventCode.cnsRecv (lane : BitVec 8) : EventCode.Statement (.cnsRecv lane) := eventCode_statement _
theorem EventCode.cnsWrite (lane : BitVec 8) : EventCode.Statement (.cnsWrite lane) := eventCode_statement _
theorem EventCode.cnsDone (lane : BitVec 8) : EventCode.Statement (.cnsDone lane) := eventCode_statement _

end Sys2Proof.Laws
end

