-- ==== Sys2Proof/Tests/Slice0.lean ====
section
/-! SUPPORT. The model's own tests: well-formedness, decoding of written-out words, the spec's vectors
(spec/95_test_vectors.md), one-step tests, and witnesses that the statements' hypotheses can be met. -/

namespace Sys2Proof.Tests

open Sys2Proof Sys2Proof.Machine

set_option Elab.async false

/-! ### Helpers -/

/-- A field of the next state, none for a stop. -/
def got {α : Type} (r : Result State) (f : State → α) : Option α :=
  match r with
  | .next s => some (f s)
  | .fault _ => none
  | .refused _ => none

/-- The next state, or `d` for a stop. -/
def orElse (r : Result State) (d : State) : State :=
  match r with
  | .next s => s
  | .fault _ => d
  | .refused _ => d

/-- Whether a step answers a next state. -/
def completes (r : Result State) : Bool := (got r fun _ => ()).isSome

/-- The fault of a stop. -/
def faultOf (r : Result State) : Option Fault :=
  match r with
  | .next _ => none
  | .fault e => some e
  | .refused _ => none

/-- The refusal of a stop. -/
def refusalOf (r : Result State) : Option Refusal :=
  match r with
  | .next _ => none
  | .fault _ => none
  | .refused e => some e

theorem next_orElse {r : Result State} {d : State} (h : completes r = true) : r = .next (orElse r d) := by
  cases r <;> simp_all [completes, got, orElse]

/-- Words `0, 1, …, n − 1` at the offsets `0, 1, …, n − 1` (the leaves of programs P1 to P6). -/
def rampMem (n : Nat) : Memory := (List.range (n - 1)).map fun w => (w + 1, BitVec.ofNat 32 (w + 1))

/-- LEAF_LEVEL of a run over `L` leaves, leaf word `w` at offset `w`, on the build `c`. -/
def started (c : Config) (L : Nat) : State :=
  { State.resetOf c with
    leafCnt := BitVec.ofNat 32 L
    inWords := BitVec.ofNat 32 (8 * L)
    outWords := BitVec.ofNat 32 (8 * (L - 1))
    fsm := .leafLevel
    leafMem := rampMem (8 * L) }

/-- The state after a schedule from `s`. -/
def after (is : List Instr) (s : State) : State := orElse (runSchedule is s) s

/-- The eight steps of one pair of a lane. -/
def onePair (lane : BitVec 8) : List Instr :=
  [.prdRead lane, .prdPad lane, .prdSend lane, .engRecv lane, .engCompress lane, .engSend lane,
    .cnsRecv lane, .cnsWrite lane]

/-- The 12 steps of program P1 under S0. -/
def runP1 : List Instr := [.orcCheck, .orcDispatch] ++ onePair 0 ++ [.cnsDone 0, .orcJoin]

/-- The same run with two lanes, the second of which has no pair, and two accesses by the Host. -/
def runTwoLanes : List Instr := [.orcCheck, .rdStatus, .orcDispatch, .wrLeafCnt 9, .cnsDone 1] ++ onePair 0 ++ [.cnsDone 0, .orcJoin]

/-- The first 22 steps of V8's trace of program P2. -/
def runP2level0 : List Instr :=
  [.orcCheck, .orcDispatch] ++ onePair 0 ++ [.cnsDone 0] ++ onePair 1 ++ [.cnsDone 1, .orcJoin, .orcDispatch]

/-- The build and the start of program P1. -/
def startP1 : State := started ⟨1, 1, 20⟩ 2

/-- The build and the start of program P2. -/
def startP2 : State := started ⟨2, 2, 20⟩ 4

/-- A word list as a Node. -/
def nodeOf (m : Memory) (a : Nat) : List Word := (Memory.nodeAt m a).toList

/-! ### Well-formedness -/

theorem test_wf_last_lane : (Instr.prdRead 3#8).wf Config.standard = true := by decide
theorem test_wf_refuses_lane_N : (Instr.prdRead 4#8).wf Config.standard = false := by decide
theorem test_wf_refuses_lane_7_of_4 : (Instr.cnsDone 7#8).wf Config.standard = false := by decide
theorem test_config_wf_refuses_no_lane : Config.wf ⟨0, 2, 20⟩ = false := by decide
theorem test_config_wf_refuses_256_lanes : Config.wf ⟨256, 2, 20⟩ = false := by decide
theorem test_config_wf_refuses_no_depth : Config.wf ⟨4, 0, 20⟩ = false := by decide
theorem test_config_wf_refuses_depth_256 : Config.wf ⟨4, 256, 20⟩ = false := by decide
theorem test_config_wf_refuses_no_leaves : Config.wf ⟨4, 2, 0⟩ = false := by decide
theorem test_config_wf_refuses_log_29 : Config.wf ⟨4, 2, 29⟩ = false := by decide

/-! ### Decoding: R123's access words and R124's codes, written out -/

theorem test_decode_rdCtrl : decodeTableWord 40 0x0000000000 = some .rdCtrl := by decide
theorem test_decode_rdStatus : decodeTableWord 40 0x0100000000 = some .rdStatus := by decide
theorem test_decode_rdLeafCnt : decodeTableWord 40 0x0200000000 = some .rdLeafCnt := by decide
theorem test_decode_rdInWords : decodeTableWord 40 0x0300000000 = some .rdInWords := by decide
theorem test_decode_rdOutWords : decodeTableWord 40 0x0400000000 = some .rdOutWords := by decide
theorem test_decode_rdConfig : decodeTableWord 40 0x0500000000 = some .rdConfig := by decide
theorem test_decode_wrCtrl : decodeTableWord 40 0x1000000001 = some (.wrCtrl 1#1) := by decide
theorem test_decode_wrCtrl_keeps_bit_0 : decodeTableWord 40 0x10fffffffe = some (.wrCtrl 0#1) := by decide
theorem test_decode_wrStatus : decodeTableWord 40 0x1100000000 = some .wrStatus := by decide
theorem test_decode_wrLeafCnt : decodeTableWord 40 0x1200000004 = some (.wrLeafCnt 4#32) := by decide
theorem test_decode_wrInWords : decodeTableWord 40 0x1300000020 = some (.wrInWords 0x20#32) := by decide
theorem test_decode_wrOutWords : decodeTableWord 40 0x1480000018 = some (.wrOutWords 0x80000018#32) := by decide
theorem test_decode_wrConfig : decodeTableWord 40 0x1500000000 = some .wrConfig := by decide
theorem test_decode_rdRsvd6 : decodeTableWord 40 0x0600000000 = some .rdRsvd6 := by decide
theorem test_decode_wrRsvd6 : decodeTableWord 40 0x1600000001 = some .wrRsvd6 := by decide
theorem test_decode_rdRsvd7 : decodeTableWord 40 0x0700000000 = some .rdRsvd7 := by decide
theorem test_decode_wrRsvd7 : decodeTableWord 40 0x1700000001 = some .wrRsvd7 := by decide
theorem test_decode_rdRsvd8 : decodeTableWord 40 0x0800000000 = some .rdRsvd8 := by decide
theorem test_decode_wrRsvd8 : decodeTableWord 40 0x1800000001 = some .wrRsvd8 := by decide
theorem test_decode_rdRsvd9 : decodeTableWord 40 0x0900000000 = some .rdRsvd9 := by decide
theorem test_decode_wrRsvd9 : decodeTableWord 40 0x1900000001 = some .wrRsvd9 := by decide
theorem test_decode_rdRsvd10 : decodeTableWord 40 0x0a00000000 = some .rdRsvd10 := by decide
theorem test_decode_wrRsvd10 : decodeTableWord 40 0x1a00000001 = some .wrRsvd10 := by decide
theorem test_decode_rdRsvd11 : decodeTableWord 40 0x0b00000000 = some .rdRsvd11 := by decide
theorem test_decode_wrRsvd11 : decodeTableWord 40 0x1b00000001 = some .wrRsvd11 := by decide
theorem test_decode_rdRsvd12 : decodeTableWord 40 0x0c00000000 = some .rdRsvd12 := by decide
theorem test_decode_wrRsvd12 : decodeTableWord 40 0x1c00000001 = some .wrRsvd12 := by decide
theorem test_decode_rdRsvd13 : decodeTableWord 40 0x0d00000000 = some .rdRsvd13 := by decide
theorem test_decode_wrRsvd13 : decodeTableWord 40 0x1d00000001 = some .wrRsvd13 := by decide
theorem test_decode_rdRsvd14 : decodeTableWord 40 0x0e00000000 = some .rdRsvd14 := by decide
theorem test_decode_wrRsvd14 : decodeTableWord 40 0x1e00000001 = some .wrRsvd14 := by decide
theorem test_decode_rdRsvd15 : decodeTableWord 40 0x0fffffffff = some .rdRsvd15 := by decide
theorem test_decode_wrRsvd15 : decodeTableWord 40 0x1f12345678 = some .wrRsvd15 := by decide
theorem test_decode_reset : decodeTableWord 8 0x00 = some .reset := by decide
theorem test_decode_hostRd : decodeTableWord 8 0x01 = some (.hostRd 0#4) := by decide
theorem test_decode_hostWr : decodeTableWord 8 0x02 = some (.hostWr 0#4 0#32) := by decide
theorem test_decode_orcCheck : decodeTableWord 8 0x10 = some .orcCheck := by decide
theorem test_decode_orcDispatch : decodeTableWord 8 0x11 = some .orcDispatch := by decide
theorem test_decode_orcJoin : decodeTableWord 8 0x12 = some .orcJoin := by decide
theorem test_decode_prdRead : decodeTableWord 8 0x20 = some (.prdRead 0#8) := by decide
theorem test_decode_prdPad : decodeTableWord 8 0x21 = some (.prdPad 0#8) := by decide
theorem test_decode_prdSend : decodeTableWord 8 0x22 = some (.prdSend 0#8) := by decide
theorem test_decode_engRecv : decodeTableWord 8 0x30 = some (.engRecv 0#8) := by decide
theorem test_decode_engCompress : decodeTableWord 8 0x31 = some (.engCompress 0#8) := by decide
theorem test_decode_engSend : decodeTableWord 8 0x32 = some (.engSend 0#8) := by decide
theorem test_decode_cnsRecv : decodeTableWord 8 0x40 = some (.cnsRecv 0#8) := by decide
theorem test_decode_cnsWrite : decodeTableWord 8 0x41 = some (.cnsWrite 0#8) := by decide
theorem test_decode_cnsDone : decodeTableWord 8 0x42 = some (.cnsDone 0#8) := by decide

/-- The events' other fields, in log 2's places: lane 5 of PRD_SEND, index 2 and data 6 of HOST_WR. -/
theorem test_decode_event_fields :
    decode (.event 0x00000000000522) = .ok (.prdSend 5#8) ∧
    decode (.event 0x00000006020002) = .ok (.hostWr 2#4 6#32) ∧
    decode (.event 0x00000000050001) = .ok (.hostRd 5#4) := by decide

theorem test_decode_refuses_reserved_codes :
    decode (.event 0x03) = .error .reservedStepCode ∧ decode (.event 0x13) = .error .reservedStepCode ∧
    decode (.event 0x23) = .error .reservedStepCode ∧ decode (.event 0x43) = .error .reservedStepCode ∧
    decode (.event 0x50) = .error .reservedStepCode ∧ decode (.event 0xff) = .error .reservedStepCode := by decide

theorem test_decode_refuses_stray_fields :
    decode (.event 0x00000000000110) = .error .strayField ∧ decode (.event 0x00000000010022) = .error .strayField ∧
    decode (.event 0x00000000100022) = .error .strayField ∧ decode (.event 0x00000001000042) = .error .strayField := by
  decide

theorem test_decode_refuses_wide_access : decode (.access 0x2000000000) = .error .accessTooWide := by decide

/-! ### Vectors (95_test_vectors.md) -/

/-- V1: the primitive operations. -/
theorem test_vector_V1 :
    [0x00000001#32, 0x80000000#32, 0x12345678#32, 0xffffffff#32].map (fun x =>
      [rotr x 1, rotr x 31, bigSigma0 x, bigSigma1 x, smallSigma0 x, smallSigma1 x]) =
    [[0x80000000, 0x00000002, 0x40080400, 0x04200080, 0x02004000, 0x0000a000],
      [0x40000000, 0x00000001, 0x20040200, 0x02100040, 0x11002000, 0x00205000],
      [0x091a2b3c, 0x2468acf0, 0x66146474, 0x3561abda, 0xe7fce6ee, 0xa1f78649],
      [0xffffffff, 0xffffffff, 0xffffffff, 0xffffffff, 0x1fffffff, 0x003fffff]] := by decide

/-- V2: Ch, Maj and the wrapping addition. -/
theorem test_vector_V2 :
    shaCh 0xffffffff 0x12345678 0x9abcdef0 = 0x12345678 ∧ shaMaj 0xffffffff 0x12345678 0x9abcdef0 = 0x9abcdef8 ∧
    shaCh 0xf0f0f0f0 0xff00ff00 0xaaaaaaaa = 0xfa0afa0a ∧ shaMaj 0xf0f0f0f0 0xff00ff00 0xaaaaaaaa = 0xfaa0faa0 ∧
    shaCh 0x6a09e667 0xbb67ae85 0x3c6ef372 = 0x3e67b715 ∧ shaMaj 0x6a09e667 0xbb67ae85 0x3c6ef372 = 0x3a6fe667 ∧
    (0xffffffff + 0x00000001 : Word) = 0 ∧ (0x80000000 + 0x80000000 : Word) = 0 := by decide

/-- The pair of 16 words `k = k`. -/
def rampPair : SiblingPair := Vector.ofFn fun k : Fin 16 => BitVec.ofNat 32 k.val

/-- V3: the padding of the pair `k = k`. -/
theorem test_vector_V3 : (pad rampPair).toList =
    [0, 1, 2, 3, 4, 5, 6, 7, 8, 9, 10, 11, 12, 13, 14, 15, 0x80000000, 0, 0, 0, 0, 0, 0, 0, 0, 0, 0, 0, 0, 0, 0,
      0x200] := by decide

/-- CS1: the constant schedule of the second block. -/
theorem test_vector_CS1 : schedule padBlk = storedSchedule := by decide +kernel

/-- KV1's 64 bytes, packed by R88. -/
def kv1 : SiblingPair := packPair (Vector.ofFn fun k : Fin 64 => BitVec.ofNat 8 k.val)

theorem test_vector_KV1_words : kv1.toList =
    [0x00010203, 0x04050607, 0x08090a0b, 0x0c0d0e0f, 0x10111213, 0x14151617, 0x18191a1b, 0x1c1d1e1f,
      0x20212223, 0x24252627, 0x28292a2b, 0x2c2d2e2f, 0x30313233, 0x34353637, 0x38393a3b, 0x3c3d3e3f] := by decide

/-- KV1: the digest the source gives. -/
theorem test_vector_KV1 : (hashPair kv1).toList =
    [0xfdeab9ac, 0xf3710362, 0xbd2658cd, 0xc9a29e8f, 0x9c757fcf, 0x9811603a, 0x8c447cd1, 0xd9151108] := by
  decide +kernel

/-- KV1: block 1's registers after round 1. -/
theorem test_vector_KV1_round_1 : shaRounds (schedule kv1) (loadRegs iv) 2 (by decide) =
    ⟨0x5426441f, 0xfc098a50, 0x6a09e667, 0xbb67ae85, 0x4adec824, 0x98c8e4a5, 0x510e527f, 0x9b05688c⟩ := by
  decide +kernel

/-- V4: the pair whose word 15 is 1, and R89's byte form of its digest. -/
theorem test_vector_V4 :
    ((nodeBytes (hashPair #v[0, 0, 0, 0, 0, 0, 0, 0, 0, 0, 0, 0, 0, 0, 0, 1])).toList.take 8) =
    [0x90, 0xf4, 0xb3, 0x95, 0x48, 0xdf, 0x55, 0xad] := by decide +kernel

/-- V5: the addressing model at L = 8 and N = 2, and the level offsets at L = 2^28. -/
theorem test_vector_V5 :
    [nodeCount 8 0, levelOff 8 0, nodeCount 8 1, levelOff 8 1, nodeCount 8 2, levelOff 8 2] = [4, 24, 2, 8, 1, 0] ∧
    [levelOff (2 ^ 28) 0, levelOff (2 ^ 28) 1, levelOff (2 ^ 28) 4, levelOff (2 ^ 28) 27] =
      [1073741816, 536870904, 67108856, 0] ∧
    pairSrc 8 0 (pairIndex 2 1 1) = (.leaf, 48) ∧ pairDst 8 0 (pairIndex 2 1 1) = 48 ∧
    pairSrc 8 1 (pairIndex 2 1 0) = (.node, 40) ∧ pairDst 8 1 (pairIndex 2 1 0) = 16 ∧
    pairSrc 8 2 (pairIndex 2 0 0) = (.node, 8) ∧ pairDst 8 2 (pairIndex 2 0 0) = 0 := by decide

/-- V5: the lane pair counts. -/
theorem test_vector_V5_lane_pairs :
    [(1, 4), (2, 3), (3, 2), (4, 3), (8, 3), (8, 4)].map (fun q => (List.range q.2).map (lanePairs q.1 q.2)) =
    [[1, 0, 0, 0], [1, 1, 0], [2, 1], [2, 1, 1], [3, 3, 2], [2, 2, 2, 2]] := by decide

/-- A state in LEAF_LEVEL with the three registers as given, `MAX_LOG2_LEAVES = 20`. -/
def configured (l inw outw : Word) : State :=
  { State.resetOf ⟨4, 2, 20⟩ with leafCnt := l, inWords := inw, outWords := outw, fsm := .leafLevel }

/-- The first 64 primes. -/
def primes64 : List Nat := ((List.range 312).filter fun n => decide (2 ≤ n) &&
  ((List.range 18).all fun d => decide (d < 2) || decide (n ≤ d) || n % d != 0))

/-- The constants of R159 are the first 32 bits of the fractional parts of the cube roots of the first 64 primes
(FIPS 180-4): `K[t]` is `c` modulo `2^32` for the `c` with `c^3 ≤ p·2^96 < (c + 1)^3`, of which `⌊∛p⌋ ≤ 6` is the upper part. -/
theorem test_roundK_cube_roots :
    primes64.length = 64 ∧ (List.range 64).all (fun t => (List.range 7).any fun q =>
      decide ((q * 2 ^ 32 + (roundK t).toNat) ^ 3 ≤ primes64.getD t 0 * 2 ^ 96) &&
        decide (primes64.getD t 0 * 2 ^ 96 < (q * 2 ^ 32 + (roundK t).toNat + 1) ^ 3)) = true := by decide +kernel

/-- V6: STATUS after ORC_CHECK, row by row. -/
theorem test_vector_V6 :
    [configured 0x0 0x0 0x0, configured 0x1 0x8 0x0, configured 0x2 0x10 0x8, configured 0x3 0x18 0x10,
      configured 0x6 0x30 0x28, configured 0x4 0x20 0x18, configured 0x4 0x20 0x20, configured 0x4 0x18 0x18,
      configured 0x200000 0x1000000 0xfffff8, configured 0x100000 0x800000 0x7ffff8, configured 0x80000000 0x0 0x0,
      configured 0xffffffff 0x0 0x0, configured 0x8 0x0 0x0].map
        (fun s => got (exec .orcCheck s) State.statusWord) =
    [some 0x514, some 0x514, some 0x301, some 0x514, some 0x514, some 0x201, some 0x534, some 0x524, some 0x584,
      some 0x201, some 0x584, some 0x514, some 0x524] := by decide +kernel

/-- V8: STATUS after the steps 1, 2, 21 and 22 of program P2, and after the join of P1. -/
theorem test_vector_V8_status :
    [1, 2, 11, 21, 22].map (fun n => (after (runP2level0.take n) startP2).statusWord) =
      [0x201, 0x209, 0x209, 0x10301, 0x10309] ∧
    (after runP1 startP1).statusWord = 0x402 := by decide +kernel

/-- MT2 and program P1: the Node that the 12 steps of the run leave. -/
theorem test_vector_MT2 : nodeOf (after runP1 startP1).nodeMem 0 =
    [0x59d67963, 0xf3f53fd0, 0x16156b50, 0xd83b8c83, 0xd4068f6e, 0x2f08bc9c, 0x87f0b49c, 0x20cf31f0] := by
  decide +kernel

/-! ### One step of each instruction -/

/-- Program P2 after its first `n` steps under S0. -/
def p2 (n : Nat) : State := after (runP2level0.take n) startP2

/-- Lane `i` of a state. -/
def laneAt (s : State) (i : Nat) : Lane := (s.lanes[i]?).getD (Lane.resetWith LaneBuffers.zero)

theorem lane_laneAt {s : State} {i : Nat} (h : (s.lanes[i]?).isSome = true) :
    s.lanes[i]? = some (laneAt s i) := by
  cases hi : s.lanes[i]? <;> simp_all [laneAt]

/-- A block in DONE whose registers hold 6, 0x30 and 0x28, and whose last read returned something else. -/
def marked : State :=
  { State.reset with leafCnt := 6, inWords := 0x30, outWords := 0x28, fsm := .done, rdata := 0xffffffff }

theorem test_rdCtrl : got (exec .rdCtrl marked) (·.rdata) = some 0 := by decide
theorem test_rdStatus : got (exec .rdStatus marked) (·.rdata) = some 0x402 := by decide
theorem test_rdLeafCnt : got (exec .rdLeafCnt marked) (·.rdata) = some 6 := by decide
theorem test_rdInWords : got (exec .rdInWords marked) (·.rdata) = some 0x30 := by decide
theorem test_rdOutWords : got (exec .rdOutWords marked) (·.rdata) = some 0x28 := by decide
theorem test_rdConfig : got (exec .rdConfig State.reset) (·.rdata) = some 0x00021404 := by decide
theorem test_wrCtrl_starts : got (exec (.wrCtrl 1#1) State.reset) State.statusWord = some 0x101 := by decide
theorem test_wrCtrl_busy : got (exec (.wrCtrl 1#1) (p2 2)) State.statusWord = some 0x209 := by decide +kernel
theorem test_wrStatus : got (exec .wrStatus marked) State.statusWord = some 0x402 := by decide
theorem test_wrLeafCnt : got (exec (.wrLeafCnt 4#32) State.reset) (·.leafCnt) = some 4 := by decide
theorem test_wrLeafCnt_busy : got (exec (.wrLeafCnt 8#32) (p2 2)) (·.leafCnt) = some 4 := by decide +kernel
theorem test_wrInWords : got (exec (.wrInWords 0x20#32) (orElse (exec .orcCheck (configured 3 0 0)) State.reset))
    (fun s => (s.inWords, s.fsm)) = some (0x20, .error) := by decide +kernel
theorem test_wrOutWords : got (exec (.wrOutWords 0x18#32) marked) (·.outWords) = some 0x18 := by decide
theorem test_wrConfig : got (exec .wrConfig marked) (fun s => configWord s.cfg) = some 0x00021404 := by decide
theorem test_rdRsvd : [Instr.rdRsvd6, .rdRsvd7, .rdRsvd8, .rdRsvd9, .rdRsvd10, .rdRsvd11, .rdRsvd12, .rdRsvd13,
    .rdRsvd14, .rdRsvd15].all (fun i => got (exec i marked) (·.rdata) == some 0) = true := by decide
theorem test_wrRsvd : [Instr.wrRsvd6, .wrRsvd7, .wrRsvd8, .wrRsvd9, .wrRsvd10, .wrRsvd11, .wrRsvd12, .wrRsvd13,
    .wrRsvd14, .wrRsvd15].all (fun i => got (exec i marked) (fun s =>
      (s.leafCnt, s.inWords, s.outWords, s.rdata)) == some (6, 0x30, 0x28, 0xffffffff)) = true := by decide
theorem test_hostRd : got (exec (.hostRd 2#4) marked) (·.rdata) = some 6 := by decide
theorem test_hostWr : got (exec (.hostWr 3#4 9#32) marked) (fun s => (s.leafCnt, s.inWords)) = some (6, 9) := by decide

/-- V10: a RESET of a busy block. -/
theorem test_reset_while_busy : got (exec .reset (p2 5)) (fun s => ([s.statusWord, s.leafCnt, s.inWords, s.outWords],
    s.lanes.map fun l => (l.req.length, l.cmdValid))) =
    some ([0, 0, 0, 0], [(0, false), (0, false)]) := by decide +kernel

theorem test_orcDispatch_counts : got (exec .orcDispatch (p2 1)) (fun s => s.lanes.map fun l => l.cmdCount) =
    some [1, 1] := by decide +kernel
theorem test_orcDispatch_last_level : (p2 22).lanes.map (fun l => (l.cmdLevel, l.cmdCount)) = [(1, 1), (1, 0)] := by
  decide +kernel
theorem test_orcJoin_waits : got (exec .orcJoin (p2 19)) State.statusWord = some 0x209 := by decide +kernel
theorem test_prdRead_leaf : (laneAt (p2 12) 1).buf.pb.toList =
    [16, 17, 18, 19, 20, 21, 22, 23, 24, 25, 26, 27, 28, 29, 30, 31] := by decide +kernel
theorem test_prdRead_waits_before_dispatch : got (exec (.prdRead 0#8) (p2 1)) (fun s => (laneAt s 0).prdPhase) =
    some .read := by decide +kernel
theorem test_prdPad : ((laneAt (p2 13) 1).buf.bb[15], (laneAt (p2 13) 1).buf.bb[16]) = (31, 0x80000000) := by
  decide +kernel
theorem test_prdSend : ((laneAt (p2 5) 0).req.length, (laneAt (p2 5) 0).prdK) = (1, 1) := by decide +kernel
theorem test_engRecv : ((laneAt (p2 6) 0).req.length, (laneAt (p2 6) 0).buf.eb[31]) = (0, 0x200) := by decide +kernel
theorem test_engSend : ((laneAt (p2 8) 0).rsp.length, (laneAt (p2 8) 0).engPhase) = (1, .idle) := by decide +kernel
theorem test_cnsRecv : ((laneAt (p2 9) 0).rsp.length, (laneAt (p2 9) 0).cnsPhase) = (0, .write) := by decide +kernel
theorem test_cnsWrite_counts : ((laneAt (p2 10) 0).cnsK, (laneAt (p2 10) 0).cnsPhase) = (1, .recv) := by decide +kernel
theorem test_cnsDone : ((laneAt (p2 11) 0).done, (laneAt (p2 11) 1).done) = (true, false) := by decide +kernel

/-- R124: the events of the first steps of P2, newest first, and of a Host write whose DATA the block ignores. -/
theorem test_events_of_a_host_access :
    got (step { State.reset with inputs := [.frame (.access 0x1f12345678)] }) (·.history) =
      some [⟨0x02, 0, .access 15 0x12345678⟩] ∧
    got (step { State.reset with inputs := [.frame (.access 0x0500000000)] }) (·.history) =
      some [⟨0x01, 0, .access 5 0x00021404⟩] := by decide +kernel

theorem test_events_of_the_block :
    eventData .orcDispatch 0 (p2 1) = .commands 0 [1, 1] ∧ eventData .orcJoin 0 (p2 20) = .entered .root 1 ∧
    eventData (.prdRead 1) 0 (p2 11) = .pairRead .leaf 16
      #v[16, 17, 18, 19, 20, 21, 22, 23, 24, 25, 26, 27, 28, 29, 30, 31] ∧
    eventData .orcCheck 0 (configured 3 0 0) = .check .cfgLeafCnt := by decide +kernel

theorem test_no_such_lane : refusalOf (exec (.engRecv 4#8) State.reset) = some .noSuchLane := by decide

/-! ### Witnesses: the hypotheses of each statement can be met -/

theorem test_witness_EventCodesNameTheirSteps_lanes :
    (Instr.cnsDone 0xff#8).lane? = some 0xff#8 ∧ Instr.orcJoin.lane? = none := by decide

theorem test_witness_EventCodesNameTheirSteps :
    ((0x43#56).extractLsb' 0 8 ∉ [0x00#8, 0x01#8, 0x02#8, 0x10#8, 0x11#8, 0x12#8, 0x20#8, 0x21#8, 0x22#8, 0x30#8,
      0x31#8, 0x32#8, 0x40#8, 0x41#8, 0x42#8]) ∧
    decode (.event 0x0522#56) = .ok (.prdSend 5#8) ∧ (Instr.prdSend 5#8).lane? = some 5#8 := by decide

theorem test_witness_EventWordsAreExact :
    decode (.event 0xff42#56) = .ok (.cnsDone 0xff#8) ∧ (Instr.cnsDone 0xff#8).kind ≠ .hostRd := by decide

theorem test_witness_PrimitiveOperationsBitByBit : 0 < 1 ∧ 1 < 32 ∧ 0 < 31 ∧ 31 < 32 := by decide

theorem test_witness_CompressionRunsItsRounds : 16 ≤ 16 ∧ 16 < 64 ∧ 16 ≤ 63 ∧ 63 < 64 ∧ 15 < 16 ∧
    (∀ t (h : t < 16), rampPair[t] = (pad rampPair)[t] ∧ padBlk[t] = (pad rampPair)[16 + t]) := by decide

theorem test_witness_LaneCountsShareTheLevel :
    0 < 3 ∧ (0 ≤ 2 ∧ 2 < 3) ∧ 8 ≤ 8 ∧ lanePairs 8 3 0 = 3 ∧ lanePairs 8 3 2 = 2 ∧ lanePairs 8 9 8 = 0 := by decide

theorem test_witness_EveryPairHasOneLane : 0 < 255 ∧ 7 < 8 ∧ 0 < 1 ∧ 0 < 8 := by decide

theorem test_witness_LevelRegionsTileNodeMem :
    (1 ≤ 1 ∧ 7 < 8 * (2 ^ 1 - 1)) ∧ (1 ≤ 28 ∧ 2147483639 < 8 * (2 ^ 28 - 1)) ∧ 27 < 28 := by decide

theorem test_witness_EverySourceWordIsReadOnce :
    (1 ≤ 1 ∧ 15 < 8 * 2 ^ 1) ∧ (1 ≤ 2 ∧ 8 ≤ 8 ∧ 8 < 8 * (2 ^ 2 - 1)) ∧ 8 ≤ 23 ∧ 23 < 8 * (2 ^ 2 - 1) := by decide

theorem test_witness_RootNodeAtOffsetZero : 1 ≤ 1 ∧ 1 ≤ 28 := by decide

theorem test_witness_ConfigReadsTheBuild :
    (State.resetOf ⟨255, 255, 28⟩).cfg.wf = true ∧ (State.resetOf ⟨1, 1, 1⟩).cfg.wf = true := by decide +kernel

theorem test_witness_StatusAndConfigIgnoreWrites :
    marked.fsm = .done ∧ exec .reset marked = .next (orElse (exec .reset marked) marked) ∧
    (orElse (exec .reset marked) marked).fsm ≠ marked.fsm ∧
    exec (.wrCtrl 1#1) marked = .next (orElse (exec (.wrCtrl 1#1) marked) marked) ∧
    (orElse (exec (.wrCtrl 1#1) marked) marked).fsm ≠ marked.fsm :=
  ⟨rfl, rfl, by decide, rfl, by decide⟩

theorem test_witness_busy_and_not_busy : marked.busy = false ∧ State.reset.busy = false ∧ (p2 2).busy = true ∧
    (Instr.cnsDone 0#8 ≠ .reset ∧ completes (exec (.cnsDone 0#8) (p2 10)) = true) := by decide +kernel

theorem test_witness_PowerOnKeepsInvariant :
    Config.wf ⟨1, 1, 1⟩ = true ∧ Config.wf ⟨255, 255, 28⟩ = true ∧ Config.wf Config.standard = true ∧
    Memory.wf [(0, 7), (15, 8)] = true ∧ Memory.wf [(7, 9)] = true ∧
    (∀ p ∈ ([(0, 7), (15, 8)] : Memory), p.1 < Space.size ⟨1, 1, 1⟩ .leaf) ∧
    (∀ p ∈ ([(7, 9)] : Memory), p.1 < Space.size ⟨1, 1, 1⟩ .node) := by decide

/-- Each clause at its boundary: one leaf, more leaves than the build has, then each size off by one word. -/
theorem test_witness_CheckGivesTheFirstFailingCode :
    checkConfig ⟨4, 2, 20⟩ 1 8 0 = .cfgLeafCnt ∧ checkConfig ⟨4, 2, 20⟩ (2 ^ 21) (8 * 2 ^ 21) 0 = .resCapacity ∧
    checkConfig ⟨4, 2, 20⟩ (2 ^ 20) (8 * 2 ^ 20 + 1) 0 = .cfgInWords ∧
    checkConfig ⟨4, 2, 20⟩ (2 ^ 20) (8 * 2 ^ 20) (8 * (2 ^ 20 - 1) - 1) = .cfgOutWords ∧
    checkConfig ⟨4, 2, 20⟩ (2 ^ 20) (8 * 2 ^ 20) (8 * (2 ^ 20 - 1)) = .none := by decide +kernel

theorem test_witness_FailedCheckEntersError :
    (configured 3 24 16).Inv ∧ (configured 3 24 16).fsm = .leafLevel ∧ (configured 3 24 16).check ≠ .none := by
  decide +kernel

/-- Two leaves and four leaves; the failing case is the theorem above. -/
theorem test_witness_CheckEntersErrorOrFirstLevel :
    startP1.fsm = .leafLevel ∧ startP1.check = .none ∧ startP2.fsm = .leafLevel ∧ startP2.check = .none ∧
    startP1.Inv ∧ startP2.Inv ∧ startP1.leafCnt = 2 ∧ startP2.leafCnt ≠ 2 :=
  ⟨rfl, by decide +kernel, rfl, by decide +kernel, by decide +kernel, by decide +kernel, by decide, by decide⟩

theorem test_witness_DispatchCommandsEveryLane :
    (p2 1).fsm = .internalLevel ∧ (p2 1).dispatched = false ∧ (p2 21).fsm = .root ∧ (p2 21).dispatched = false ∧
    ((p2 21).lanes[1]?).isSome = true ∧
    lanePairs ((p2 21).leafCnt.toNat >>> ((p2 21).curLevel.toNat + 1)) (p2 21).cfg.lanes 1 = 0 ∧ 1 < 256 := by
  decide +kernel

/-- A run of L = 8 on one lane, at the join of level 0, and the same at the join of ROOT. -/
def atJoin (L : Nat) (f : Fsm) (r : BitVec 5) : State :=
  { started ⟨1, 1, 3⟩ L with
    fsm := f
    curLevel := r
    dispatched := true
    lanes := [{ Lane.resetWith LaneBuffers.zero with
      cmdValid := true
      cmdLevel := r
      cmdCount := BitVec.ofNat 32 (nodeCount L r.toNat)
      prdK := BitVec.ofNat 32 (nodeCount L r.toNat)
      cnsK := BitVec.ofNat 32 (nodeCount L r.toNat)
      done := true }] }

/-- The three joins: to the next level, to ROOT, and to DONE; and a lane that has not committed. -/
theorem test_witness_JoinReleasesTheBarrier :
    ((atJoin 8 .internalLevel 0).dispatched = true ∧ (∀ l ∈ (atJoin 8 .internalLevel 0).lanes, l.done = true) ∧
      (atJoin 8 .internalLevel 0).curLevel.toNat + 1 < Nat.log2 (atJoin 8 .internalLevel 0).leafCnt.toNat - 1) ∧
    (atJoin 8 .internalLevel 1).fsm = .internalLevel ∧
    ¬ (atJoin 8 .internalLevel 1).curLevel.toNat + 1 < Nat.log2 (atJoin 8 .internalLevel 1).leafCnt.toNat - 1 ∧
    ((atJoin 8 .root 2).fsm = .root ∧ ∀ l ∈ (atJoin 8 .root 2).lanes, l.done = true) ∧
    ∃ l ∈ (p2 19).lanes, l.done = false := by decide +kernel

theorem test_witness_JoinFindsEveryLaneEmpty :
    (atJoin 8 .internalLevel 0).Inv ∧ enabled .orcJoin (atJoin 8 .internalLevel 0) = true ∧
    (atJoin 8 .root 2).Inv ∧ enabled .orcJoin (atJoin 8 .root 2) = true :=
  ⟨by decide +kernel, by decide +kernel, by decide +kernel, by decide +kernel⟩

/-- A pair of leaves, and at ROOT the pair of Nodes at offset 8. -/
theorem test_witness_ProducerReadsItsPair :
    ((p2 2).lanes[(0#8).toNat]? = some (laneAt (p2 2) 0) ∧ (laneAt (p2 2) 0).readReady = true ∧
      (p2 2).readSource 0 (laneAt (p2 2) 0) = (.leaf, 0) ∧ 0 + 16 ≤ Space.size (p2 2).cfg .leaf) ∧
    (p2 22).lanes[(0#8).toNat]? = some (laneAt (p2 22) 0) ∧ (laneAt (p2 22) 0).readReady = true ∧
    (p2 22).readSource 0 (laneAt (p2 22) 0) = (.node, 8) ∧ 8 + 16 ≤ Space.size (p2 22).cfg .node :=
  ⟨⟨lane_laneAt (by decide +kernel), by decide +kernel, by decide +kernel, by decide +kernel⟩,
    lane_laneAt (by decide +kernel), by decide +kernel, by decide +kernel, by decide +kernel⟩

/-- The last pair and the last Node that the memories of a build of two leaves hold. -/
theorem test_witness_at_the_last_word :
    (after (runP1.take 2) (started ⟨1, 1, 1⟩ 2)).Inv ∧
    (after (runP1.take 2) (started ⟨1, 1, 1⟩ 2)).readSource 0
      (laneAt (after (runP1.take 2) (started ⟨1, 1, 1⟩ 2)) 0) = (.leaf, 0) ∧ 0 + 16 = Space.size ⟨1, 1, 1⟩ .leaf ∧
    (after (runP1.take 9) (started ⟨1, 1, 1⟩ 2)).Inv ∧
    (after (runP1.take 9) (started ⟨1, 1, 1⟩ 2)).writeTarget 0
      (laneAt (after (runP1.take 9) (started ⟨1, 1, 1⟩ 2)) 0) = 0 ∧ 0 + 8 = Space.size ⟨1, 1, 1⟩ .node :=
  ⟨by decide +kernel, by decide +kernel, by decide +kernel, by decide +kernel, by decide +kernel, by decide +kernel⟩

theorem test_witness_RegisterStepsOfALane :
    (p2 3).lanes[(0#8).toNat]? = some (laneAt (p2 3) 0) ∧ (laneAt (p2 3) 0).prdPhase = .pad ∧
    (p2 6).lanes[(0#8).toNat]? = some (laneAt (p2 6) 0) ∧ (laneAt (p2 6) 0).engPhase = .compute ∧
    (p2 10).lanes[(0#8).toNat]? = some (laneAt (p2 10) 0) ∧ (laneAt (p2 10) 0).doneReady = true :=
  ⟨lane_laneAt (by decide +kernel), by decide +kernel, lane_laneAt (by decide +kernel), by decide +kernel,
    lane_laneAt (by decide +kernel), by decide +kernel⟩

/-- A lane of depth 1 with `m` blocks and `d` digests queued and its producer and engine about to send. -/
def queued (m d : Nat) : State :=
  { State.resetOf ⟨1, 1, 3⟩ with
    lanes := [{ Lane.resetWith LaneBuffers.zero with
      prdPhase := .send
      engPhase := .out
      req := List.replicate m LaneBuffers.zero.bb
      rsp := List.replicate d LaneBuffers.zero.ed }] }

/-- Room for one entry in each channel, and both channels full. -/
theorem test_witness_SendsAppendUnlessFull :
    (queued 0 0).lanes[(0#8).toNat]? = some (laneAt (queued 0 0) 0) ∧ (laneAt (queued 0 0) 0).prdPhase = .send ∧
    (laneAt (queued 0 0) 0).engPhase = .out ∧ (laneAt (queued 0 0) 0).req.length < (queued 0 0).cfg.chanDepth ∧
    (laneAt (queued 0 0) 0).rsp.length < (queued 0 0).cfg.chanDepth ∧
    (queued 1 1).lanes[(0#8).toNat]? = some (laneAt (queued 1 1) 0) ∧
    (queued 1 1).cfg.chanDepth ≤ (laneAt (queued 1 1) 0).req.length ∧
    (queued 1 1).cfg.chanDepth ≤ (laneAt (queued 1 1) 0).rsp.length := by decide +kernel

/-- A request and a response waiting, and both channels empty. -/
theorem test_witness_ReceivesTakeTheHead :
    (p2 5).lanes[(0#8).toNat]? = some (laneAt (p2 5) 0) ∧ (laneAt (p2 5) 0).engRecvReady = true ∧
    (p2 8).lanes[(0#8).toNat]? = some (laneAt (p2 8) 0) ∧ (laneAt (p2 8) 0).recvReady = true ∧
    (laneAt (p2 2) 0).req.length = 0 ∧ (laneAt (p2 2) 0).rsp.length = 0 :=
  ⟨lane_laneAt (by decide +kernel), by decide +kernel, lane_laneAt (by decide +kernel), by decide +kernel,
    by decide +kernel, by decide +kernel⟩

theorem test_witness_ConsumerStoresItsNode :
    (p2 9).lanes[(0#8).toNat]? = some (laneAt (p2 9) 0) ∧ (laneAt (p2 9) 0).cnsPhase = .write ∧
    Memory.wf (p2 9).nodeMem = true ∧ (p2 9).writeTarget 0 (laneAt (p2 9) 0) = 8 ∧
    8 + 8 ≤ Space.size (p2 9).cfg .node :=
  ⟨lane_laneAt (by decide +kernel), by decide +kernel, by decide +kernel, by decide +kernel, by decide +kernel⟩

/-- A lane of a build of two leaves with a command of a level its memories do not have. -/
def outside (ph : CnsPhase) : State :=
  { started ⟨1, 1, 1⟩ 2 with
    leafCnt := 8
    lanes := [{ Lane.resetWith LaneBuffers.zero with
      cmdValid := true
      cmdLevel := 1
      cmdCount := 1
      cnsPhase := ph }] }

theorem test_witness_LaneStepsStopByName :
    State.reset.lanes[(4#8).toNat]? = none ∧
    (outside .recv).lanes[(0#8).toNat]? = some (laneAt (outside .recv) 0) ∧
    enabled (.prdRead 0#8) (outside .recv) = true ∧
    Space.size (outside .recv).cfg .node < ((outside .recv).readSource 0 (laneAt (outside .recv) 0)).2 + 16 ∧
    enabled (.cnsWrite 0#8) (outside .write) = true ∧
    Space.size (outside .write).cfg .node < (outside .write).writeTarget 0 (laneAt (outside .write) 0) + 8 ∧
    faultOf (exec (.prdRead 0#8) (outside .recv)) = some .addressOutOfRange := by decide +kernel

theorem test_witness_DisabledStepsWait :
    State.reset.lanes.length = State.reset.cfg.lanes ∧ (Instr.cnsDone 3#8).wf State.reset.cfg = true ∧
    enabled (.cnsDone 3#8) State.reset = false := by decide +kernel

theorem test_witness_LanesAreIndependent :
    (Instr.prdRead 0#8).lane? = some 0#8 ∧
    exec (.prdRead 0#8) (p2 2) = .next (orElse (exec (.prdRead 0#8) (p2 2)) (p2 2)) ∧
    [laneAt (p2 2) 0][(0#8).toNat]? = (p2 2).lanes[(0#8).toNat]? :=
  ⟨rfl, next_orElse (by decide +kernel), (lane_laneAt (by decide +kernel)).symm⟩

/-- P2 with lane 0 about to pad and lane 1 about to compress. -/
theorem test_witness_StepsOfDifferentLanesCommute :
    (after [.prdRead 1#8, .prdPad 1#8, .prdSend 1#8, .engRecv 1#8] (p2 3)).Inv ∧
    enabled (.prdPad 0#8) (after [.prdRead 1#8, .prdPad 1#8, .prdSend 1#8, .engRecv 1#8] (p2 3)) = true ∧
    enabled (.engCompress 1#8) (after [.prdRead 1#8, .prdPad 1#8, .prdSend 1#8, .engRecv 1#8] (p2 3)) = true ∧
    (Instr.prdPad 0#8).wf startP2.cfg = true ∧ (Instr.engCompress 1#8).wf startP2.cfg = true ∧
    (0#8 : BitVec 8) ≠ 1#8 := by decide +kernel

theorem test_witness_StepRunsTheDecodedInstruction :
    (State.reset.withFetchWord 40 0x1200000004).assertions = true ∧
    (State.reset.withFetchWord 40 0x1200000004).inputs = .frame (.access 0x1200000004) :: [] ∧
    decode (.access 0x1200000004) = .ok (.wrLeafCnt 4#32) ∧
    got (step (State.reset.withFetchWord 40 0x1200000004)) (fun s => (s.leafCnt, s.inputs.length)) = some (4, 0) := by
  decide +kernel

/-- At reset no step is enabled; in LEAF_LEVEL ORC_CHECK is. -/
theorem test_witness_FreeTurnTakesAnEnabledStep :
    State.reset.assertions = true ∧ State.reset.inputs = [] ∧ State.reset.enabledSteps = [] ∧
    startP2.assertions = true ∧ startP2.inputs = [] ∧ startP2.enabledSteps = [.orcCheck] := by decide +kernel

theorem test_witness_StepStopsByName :
    (queued 1 1).assertions = false ∧ faultOf (step (queued 1 1)) = some .assertionFailed ∧
    (State.reset.withFetchWord 8 0x43).assertions = true ∧
    decode (tableFrame 8 0x43) = .error .reservedStepCode ∧
    refusalOf (step (State.reset.withFetchWord 8 0x43)) = some (.undecodable .reservedStepCode) := by decide +kernel

/-- While BUSY; at the last word of LeafMem of a build of two leaves; one word past it. -/
theorem test_witness_HostTransfersOnlyWhenNotBusy :
    Memory.wf startP1.leafMem = true ∧ startP1.busy = true ∧
    refusalOf (hostLoad .leaf 0 1 startP1) = some .hostMemoryWhileBusy ∧
    (State.resetOf ⟨1, 1, 1⟩).busy = false ∧ Memory.wf ((State.resetOf ⟨1, 1, 1⟩).memOf .leaf) = true ∧
    14 + [7#32, 8#32].length ≤ Space.size (State.resetOf ⟨1, 1, 1⟩).cfg .leaf ∧
    got (hostStore .leaf 14 [7#32, 8#32] (State.resetOf ⟨1, 1, 1⟩)) (·.leafMem) = some [(14, 7), (15, 8)] ∧
    Space.size (State.resetOf ⟨1, 1, 1⟩).cfg .leaf < 15 + [7#32, 8#32].length ∧
    Space.size (State.resetOf ⟨1, 1, 1⟩).cfg .node < 0 + 9 := by decide +kernel

theorem test_witness_StepKeepsInvariant :
    (startP2.withFetchWord 8 0x10).Inv ∧
    step (startP2.withFetchWord 8 0x10) =
      .next (orElse (step (startP2.withFetchWord 8 0x10)) startP2) ∧
    (p2 5).Inv ∧ (p2 5).busy = true :=
  ⟨by decide +kernel, next_orElse (by decide +kernel), by decide +kernel, by decide +kernel⟩

theorem test_witness_InvariantImpliesAssertions : State.reset.Inv ∧ (p2 5).Inv ∧ (p2 22).Inv :=
  ⟨by decide +kernel, by decide +kernel, by decide +kernel⟩

theorem test_witness_NoErrorOnceTheCheckPassed :
    (p2 2).Inv ∧ (p2 2).fsm.producing = true ∧ (Instr.prdRead 1#8).wf (p2 2).cfg = true ∧
    exec (.prdRead 1#8) (p2 2) = .next (orElse (exec (.prdRead 1#8) (p2 2)) (p2 2)) :=
  ⟨by decide +kernel, by decide +kernel, by decide +kernel, next_orElse (by decide +kernel)⟩

theorem test_witness_BusyBlockCanStep : (p2 5).Inv ∧ (p2 5).busy = true := by decide +kernel

/-- A change of `fsm` by ORC_CHECK, and one by START. -/
theorem test_witness_FsmFollowsItsTable :
    exec .orcCheck startP2 = .next (orElse (exec .orcCheck startP2) startP2) ∧
    (orElse (exec .orcCheck startP2) startP2).fsm ≠ startP2.fsm ∧
    exec (.wrCtrl 1#1) State.reset = .next (orElse (exec (.wrCtrl 1#1) State.reset) State.reset) ∧
    (orElse (exec (.wrCtrl 1#1) State.reset) State.reset).fsm = .leafLevel ∧ State.reset.fsm ≠ .leafLevel :=
  ⟨next_orElse (by decide +kernel), by decide +kernel, next_orElse (by decide +kernel), by decide +kernel,
    by decide +kernel⟩

/-- A join of the last internal level and a dispatch, in states that keep the invariant. -/
theorem test_witness_FsmFollowsItsTable_levels :
    (atJoin 8 .internalLevel 1).Inv ∧
    exec .orcJoin (atJoin 8 .internalLevel 1) =
      .next (orElse (exec .orcJoin (atJoin 8 .internalLevel 1)) State.reset) ∧
    (orElse (exec .orcJoin (atJoin 8 .internalLevel 1)) State.reset).fsm = .root ∧
    (p2 1).Inv ∧ exec .orcDispatch (p2 1) = .next (orElse (exec .orcDispatch (p2 1)) (p2 1)) ∧
    (orElse (exec .orcDispatch (p2 1)) (p2 1)).dispatched ≠ (p2 1).dispatched :=
  ⟨by decide +kernel, next_orElse (by decide +kernel), by decide +kernel, by decide +kernel,
    next_orElse (by decide +kernel), by decide +kernel⟩

theorem test_witness_TerminalStatesLeftByStartOrReset :
    marked.fsm = .done ∧ (Instr.orcJoin).isBlock = true ∧ exec .orcJoin marked = .next marked :=
  ⟨rfl, rfl, rfl⟩

theorem test_witness_StartEntersLeafLevel :
    (0xffffffff#32).getLsbD 0 = true ∧ (0xfffffffe#32).getLsbD 0 = false ∧ marked.busy = false ∧
    (p2 2).busy = true := by decide +kernel

theorem test_witness_OnlyConsumersWriteMemory :
    exec (.prdRead 0#8) (p2 2) = .next (orElse (exec (.prdRead 0#8) (p2 2)) (p2 2)) :=
  next_orElse (by decide +kernel)

/-- The first word above the tree of four leaves, at a step that is not CNS_WRITE, and a CNS_WRITE. -/
theorem test_witness_WordsAboveTheTreeAreUntouched :
    (p2 5).Inv ∧ (Instr.engRecv 0#8).isBlock = true ∧ 8 * ((p2 5).leafCnt.toNat - 1) ≤ 24 ∧
    exec (.engRecv 0#8) (p2 5) = .next (orElse (exec (.engRecv 0#8) (p2 5)) (p2 5)) ∧
    exec (.cnsWrite 0#8) (p2 9) = .next (orElse (exec (.cnsWrite 0#8) (p2 9)) (p2 9)) :=
  ⟨by decide +kernel, rfl, by decide +kernel, next_orElse (by decide +kernel), next_orElse (by decide +kernel)⟩

theorem test_witness_EveryBlockStepIsCounted :
    (p2 5).Inv ∧ (Instr.engRecv 0#8).isBlock = true ∧ enabled (.engRecv 0#8) (p2 5) = true ∧
    startP2.stepsLeft = 33 ∧ (p2 5).stepsLeft = 28 ∧ (p2 22).stepsLeft = 11 := by decide +kernel

/-- The run of program P1: 12 enabled steps, from LEAF_LEVEL to DONE. -/
theorem test_witness_a_whole_run :
    startP1.Inv ∧ startP1.fsm = .leafLevel ∧ startP1.check = .none ∧ BlockSchedule startP1.cfg runP1 ∧
    RunSchedule startP1.cfg runP1 ∧
    allEnabled runP1 startP1 = true ∧ runSchedule runP1 startP1 = .next (after runP1 startP1) ∧
    (after runP1 startP1).fsm = .done ∧ runP1.length = 12 ∧ writtenOffsets runP1 startP1 = [0] :=
  ⟨by decide +kernel, rfl, by decide +kernel, by decide +kernel, by decide +kernel, by decide +kernel,
    next_orElse (by decide +kernel), by decide +kernel, rfl, by decide +kernel⟩

/-- After 22 steps of P2 lane 0 can read its pair of level 1, and both Nodes of level 0 have been written. -/
theorem test_witness_BarrierOrdersReadsAfterWrites :
    startP2.Inv ∧ startP2.fsm = .leafLevel ∧ startP2.check = .none ∧ RunSchedule startP2.cfg runP2level0 ∧
    runSchedule runP2level0 startP2 = .next (after runP2level0 startP2) ∧
    laneAt (after runP2level0 startP2) 0 ∈ (after runP2level0 startP2).lanes ∧
    (laneAt (after runP2level0 startP2) 0).readReady = true ∧
    (laneAt (after runP2level0 startP2) 0).cmdLevel.toNat = 0 + 1 ∧
    writtenOffsets runP2level0 startP2 = [8, 16] :=
  ⟨by decide +kernel, rfl, by decide +kernel, by decide +kernel, next_orElse (by decide +kernel),
    List.mem_of_getElem? (lane_laneAt (by decide +kernel)), by decide +kernel, by decide +kernel, by decide +kernel⟩

/-- Two builds, of one lane and of two, run over the same two leaves to DONE. -/
theorem test_witness_ResultDoesNotDependOnTheBuild :
    startP1.Inv ∧ (started ⟨2, 2, 3⟩ 2).Inv ∧ startP1.check = .none ∧ (started ⟨2, 2, 3⟩ 2).check = .none ∧
    startP1.leafCnt = (started ⟨2, 2, 3⟩ 2).leafCnt ∧ startP1.leafMem = (started ⟨2, 2, 3⟩ 2).leafMem ∧
    RunSchedule ⟨2, 2, 3⟩ runTwoLanes ∧
    runSchedule runTwoLanes (started ⟨2, 2, 3⟩ 2) = .next (after runTwoLanes (started ⟨2, 2, 3⟩ 2)) ∧
    (after runTwoLanes (started ⟨2, 2, 3⟩ 2)).fsm = .done ∧ (after runP1 startP1).fsm = .done :=
  ⟨by decide +kernel, by decide +kernel, by decide +kernel, by decide +kernel, by decide +kernel, rfl,
    by decide +kernel, next_orElse (by decide +kernel), by decide +kernel, by decide +kernel⟩

/-- A configuration that passes the check, and one that does not. -/
theorem test_witness_FreeRunReachesDone :
    startP2.Inv ∧ startP2.fsm = .leafLevel ∧ startP2.inputs = [] ∧ startP2.check = .none ∧
    (configured 6 0x30 0x28).Inv ∧ (configured 6 0x30 0x28).inputs = [] ∧ (configured 6 0x30 0x28).check ≠ .none :=
  ⟨by decide +kernel, rfl, rfl, by decide +kernel, by decide +kernel, rfl, by decide +kernel⟩

/-- One level and the build's largest tree. -/
theorem test_witness_RunPseudoOperationEndsDone :
    State.reset.Inv ∧ State.reset.busy = false ∧ State.reset.inputs = [] ∧ 1 ≤ 1 ∧
    1 ≤ State.reset.cfg.maxLog2Leaves ∧ 20 ≤ State.reset.cfg.maxLog2Leaves := by decide +kernel

end Sys2Proof.Tests
end

section
/-! What one step of the machine, a free turn and a lane step answer, and the statements of spec/00_scope.md (R14) that
follow: O42, O41, O37. -/

namespace Sys2Proof.Machine

/-! ### The free scheduler's turn -/

/-- The number only selects: whatever it is, the answer is an element of the list. -/
theorem pick_mem (x : Instr) (rest : List Instr) (n : Nat) : pick x rest n ∈ x :: rest := by
  have hlt : n % (rest.length + 1) < (x :: rest).length := Nat.mod_lt n rest.length.succ_pos
  rw [pick, List.getElem?_eq_getElem hlt]
  exact List.getElem_mem hlt

@[simp] theorem State.mem_enabledSteps {s : State} {i : Instr} :
    i ∈ s.enabledSteps ↔ i ∈ blockSteps s.cfg ∧ enabled i s = true :=
  List.mem_filter

theorem State.enabledSteps_eq_nil {s : State} :
    s.enabledSteps = [] ↔ ∀ i ∈ blockSteps s.cfg, enabled i s = false := by
  simp [State.enabledSteps, List.filter_eq_nil_iff]

/-- No step's condition reads the turn counter. -/
@[simp] theorem enabled_turn (i : Instr) (s : State) (n : Nat) : enabled i { s with turn := n } = enabled i s := rfl

/-- No step's event reads the turn counter. -/
@[simp] theorem eventAt_turn (i : Instr) (data : Word) (s : State) (n : Nat) :
    eventAt i data { s with turn := n } = eventAt i data s := rfl

/-- The state from which an enabled step runs when the free scheduler takes it. -/
theorem State.fetched_freeTurn {s : State} {i : Instr} (he : enabled i s = true) :
    { s with turn := s.turn + 1 }.fetched i 0#32 s.inputs =
      { s with turn := s.turn + 1, history := eventAt i 0#32 s :: s.history } := by
  simp [State.fetched, he]

theorem State.freeTurn_of_none_enabled {s : State} (h : s.enabledSteps = []) : s.freeTurn = .next s := by
  rw [State.freeTurn, h]

/-- Whichever step the free value selects, it is one of the enabled ones (R14). -/
theorem State.freeTurn_of_some_enabled {s : State} (h : s.enabledSteps ≠ []) :
    ∃ i ∈ s.enabledSteps,
      s.freeTurn = exec i { s with turn := s.turn + 1, history := eventAt i 0#32 s :: s.history } := by
  obtain ⟨x, rest, hx⟩ := List.exists_cons_of_ne_nil h
  have hmem : pick x rest (Config.schedule s.turn) ∈ s.enabledSteps := hx ▸ pick_mem x rest _
  refine ⟨_, hmem, ?_⟩
  rw [← State.fetched_freeTurn (State.mem_enabledSteps.mp hmem).2, State.freeTurn, hx]

/-! ### One step of the machine -/

theorem step_of_no_input {s : State} (ha : s.assertions = true) (hin : s.inputs = []) : step s = s.freeTurn := by
  simp [step, ha, State.advance, hin]

theorem step_of_decoded_frame {s : State} {f : Frame} {rest : List Input} {i : Instr} (ha : s.assertions = true)
    (hin : s.inputs = .frame f :: rest) (hd : decode f = .ok i) : step s = exec i (s.fetched i f.data rest) := by
  simp [step, ha, State.advance, hin, State.runFrame, hd]

/-- Settles O42: the free turn by whether `enabledSteps` is empty; the scheduler only picks from that list. -/
theorem freeTurnTakesAnEnabledStep : Obligations.FreeTurnTakesAnEnabledStep := by
  intro s ha hin
  rw [step_of_no_input ha hin]
  constructor
  · intro hnone
    exact State.freeTurn_of_none_enabled (State.enabledSteps_eq_nil.mpr hnone)
  · rintro ⟨j, hj, hje⟩
    have hne : s.enabledSteps ≠ [] := List.ne_nil_of_mem (State.mem_enabledSteps.mpr ⟨hj, hje⟩)
    obtain ⟨i, hi, hturn⟩ := State.freeTurn_of_some_enabled hne
    obtain ⟨hblock, hen⟩ := State.mem_enabledSteps.mp hi
    exact ⟨i, hblock, hen, hturn⟩

/-- Settles O41: `fetched` is the state without the input, with the event recorded. -/
theorem stepRunsTheDecodedInstruction : Obligations.StepRunsTheDecodedInstruction := by
  intro s f rest i ha hin hd
  exact step_of_decoded_frame ha hin hd

/-! ### Where a lane step stops -/

/-- For a lane the build has, a lane step is enabled exactly if that lane is ready for it. -/
theorem State.laneReady_of_lane {s : State} {lane : BitVec 8} {l : Lane} (hl : s.lanes[lane.toNat]? = some l)
    (ready : Lane → Bool) : s.laneReady lane ready = ready l := by
  simp [State.laneReady, hl]

/-- Each of the nine lane steps is a `laneStep` of its lane, under the condition that enables it. -/
theorem exec_eq_laneStep {i : Instr} {lane : BitVec 8} (h : i.lane? = some lane) (s : State) :
    ∃ (ready : Lane → Bool) (act : Lane → Result State),
      enabled i s = s.laneReady lane ready ∧ exec i s = laneStep lane s ready act := by
  cases i with
  | prdRead j | prdPad j | prdSend j | engRecv j | engCompress j | engSend j | cnsRecv j | cnsWrite j | cnsDone j =>
    obtain rfl : j = lane := Option.some.inj h
    exact ⟨_, _, rfl, rfl⟩
  | _ => cases h

theorem exec_of_no_such_lane {i : Instr} {lane : BitVec 8} {s : State} (hi : i.lane? = some lane)
    (hl : s.lanes[lane.toNat]? = none) : exec i s = .refused .noSuchLane := by
  obtain ⟨ready, act, -, hexec⟩ := exec_eq_laneStep hi s
  rw [hexec, laneStep, hl]

theorem State.memRead_eq_none {s : State} {sp : Space} {a n : Nat} :
    s.memRead sp a n = none ↔ Space.size s.cfg sp < a + n := by
  simp [State.memRead, Space.holds]

theorem State.memWrite_eq_none {s : State} {sp : Space} {a : Nat} {ws : List Word} :
    s.memWrite sp a ws = none ↔ Space.size s.cfg sp < a + ws.length := by
  simp [State.memWrite, Space.holds]

theorem exec_prdRead_out_of_range {lane : BitVec 8} {s : State} {l : Lane} (hl : s.lanes[lane.toNat]? = some l)
    (hr : l.readReady = true)
    (hout : Space.size s.cfg (s.readSource lane.toNat l).1 < (s.readSource lane.toNat l).2 + 16) :
    exec (.prdRead lane) s = .fault .addressOutOfRange := by
  refine (laneStep_ready hl hr).trans ?_
  rw [State.memRead_eq_none.mpr hout]

theorem exec_cnsWrite_out_of_range {lane : BitVec 8} {s : State} {l : Lane} (hl : s.lanes[lane.toNat]? = some l)
    (hr : l.writeReady = true) (hout : Space.size s.cfg .node < s.writeTarget lane.toNat l + 8) :
    exec (.cnsWrite lane) s = .fault .addressOutOfRange := by
  refine (laneStep_ready hl hr).trans ?_
  rw [State.memWrite_eq_none.mpr (by simpa using hout)]

/-- Settles O37: a missing lane stops every lane step in `laneStep`; the two memory steps stop at the range check. -/
theorem laneStepsStopByName : Obligations.LaneStepsStopByName := by
  intro i lane s hi
  refine ⟨exec_of_no_such_lane hi, fun l hl hen => ⟨?_, ?_⟩⟩
  · rintro rfl hout
    exact exec_prdRead_out_of_range hl ((State.laneReady_of_lane hl Lane.readReady).symm.trans hen) hout
  · rintro rfl hout
    exact exec_cnsWrite_out_of_range hl ((State.laneReady_of_lane hl Lane.writeReady).symm.trans hen) hout

end Sys2Proof.Machine
end

section
/-! The invariant of every reachable state (spec/10_state.md R39 to R47, R54): each step of a lane, of the orchestrator and
of the Host keeps it, so every step of the machine does: O45; and it implies R54's assertions: O46. -/

namespace Sys2Proof.Machine

/-! ### The pairs in flight in one lane (R54 c) -/

/-- Whether the engine holds a pair, by its phase. -/
def EngPhase.held : EngPhase → Nat
  | .idle => 0
  | .compute | .out => 1

/-- Whether DB holds a pair's digest, by the consumer's phase. -/
def CnsPhase.held : CnsPhase → Nat
  | .recv => 0
  | .write => 1

theorem Lane.inFlight_eq (l : Lane) :
    l.inFlight = l.req.length + l.engPhase.held + l.rsp.length + l.cnsPhase.held := by
  cases heng : l.engPhase <;> cases hcns : l.cnsPhase <;>
    simp [Lane.inFlight, EngPhase.held, CnsPhase.held, heng, hcns]

theorem Lane.holdsNothing_iff {l : Lane} : l.holdsNothing = true ↔ l.inFlight = 0 ∧ l.prdPhase = .read := by
  cases heng : l.engPhase <;> cases hcns : l.cnsPhase <;>
    simp [Lane.holdsNothing, Lane.inFlight_eq, EngPhase.held, CnsPhase.held, heng, hcns, and_assoc]

theorem Lane.inFlight_blockSent (l : Lane) : l.blockSent.inFlight = l.inFlight + 1 := by
  simp only [Lane.inFlight_eq, Lane.blockSent_req, List.length_append, List.length_singleton, Lane.blockSent_engPhase,
    Lane.blockSent_rsp, Lane.blockSent_cnsPhase]
  omega

theorem Lane.inFlight_blockTaken {l : Lane} {b : PaddedBlock} {rest : List PaddedBlock} (hidle : l.engPhase = .idle)
    (hreq : l.req = b :: rest) : (l.blockTaken b rest).inFlight = l.inFlight := by
  simp [Lane.inFlight_eq, EngPhase.held, hidle, hreq]

theorem Lane.inFlight_compressed {l : Lane} (hcomp : l.engPhase = .compute) : l.compressed.inFlight = l.inFlight := by
  simp [Lane.inFlight_eq, EngPhase.held, hcomp]

theorem Lane.inFlight_digestSent {l : Lane} (hout : l.engPhase = .out) : l.digestSent.inFlight = l.inFlight := by
  simp only [Lane.inFlight_eq, EngPhase.held, hout, Lane.digestSent_req, Lane.digestSent_engPhase, Lane.digestSent_rsp,
    Lane.digestSent_cnsPhase, List.length_append, List.length_singleton]
  omega

theorem Lane.inFlight_digestTaken {l : Lane} {d : Digest} {rest : List Digest} (hrecv : l.cnsPhase = .recv)
    (hrsp : l.rsp = d :: rest) : (l.digestTaken d rest).inFlight = l.inFlight := by
  simp [Lane.inFlight_eq, CnsPhase.held, hrecv, hrsp, Nat.add_assoc]

theorem Lane.inFlight_of_write {l : Lane} (hwrite : l.cnsPhase = .write) : l.inFlight = l.nodeWritten.inFlight + 1 := by
  simp [Lane.inFlight_eq, CnsPhase.held, hwrite]

/-! ### What one step does to its lane -/

/-- The nine ways in which a step of a lane changes the lane, each with what its condition says of the lane (R233 to R246). -/
inductive Lane.Moves (c : Config) (l : Lane) : Lane → Prop
  | pairRead (p : SiblingPair) (hv : l.cmdValid = true) (hk : l.prdK.toNat < l.cmdCount.toNat) : Moves c l (l.pairRead p)
  | padded (hpad : l.prdPhase = .pad) : Moves c l l.padded
  | blockSent (hsend : l.prdPhase = .send) (hroom : l.req.length < c.chanDepth) : Moves c l l.blockSent
  | blockTaken {b : PaddedBlock} {rest : List PaddedBlock} (hidle : l.engPhase = .idle) (hreq : l.req = b :: rest) :
      Moves c l (l.blockTaken b rest)
  | compressed (hcomp : l.engPhase = .compute) : Moves c l l.compressed
  | digestSent (hout : l.engPhase = .out) (hroom : l.rsp.length < c.chanDepth) : Moves c l l.digestSent
  | digestTaken {d : Digest} {rest : List Digest} (hrecv : l.cnsPhase = .recv) (hrsp : l.rsp = d :: rest) :
      Moves c l (l.digestTaken d rest)
  | nodeWritten (hwrite : l.cnsPhase = .write) : Moves c l l.nodeWritten
  | committed (hv : l.cmdValid = true) (hk : l.cnsK = l.cmdCount) : Moves c l l.committed

/-- No lane step changes the lane's command: only the orchestrator does (R43). -/
theorem Lane.Moves.command_eq {c : Config} {l m : Lane} (h : l.Moves c m) :
    m.cmdValid = l.cmdValid ∧ m.cmdLevel = l.cmdLevel ∧ m.cmdCount = l.cmdCount := by
  cases h <;> exact ⟨rfl, rfl, rfl⟩

/-- A lane without a command holds nothing, so no step of it is enabled (R54 b). -/
theorem Lane.Moves.cmdValid {c : Config} {l m : Lane} (h : l.Moves c m) (hok : Lane.Ok c l) : l.cmdValid = true := by
  obtain ⟨hfree, -⟩ := hok
  by_contra hv
  obtain ⟨hnothing, -⟩ := hfree (by simpa using hv)
  cases h <;> simp_all [Lane.holdsNothing]

/-- What `Lane.Ok` says of a lane that has a command. -/
theorem Lane.ok_iff_of_command {c : Config} {l : Lane} (hv : l.cmdValid = true) :
    Lane.Ok c l ↔
      (l.prdK.toNat = l.cnsK.toNat + l.inFlight ∧ l.prdK.toNat ≤ l.cmdCount.toNat) ∧
      (l.prdPhase ≠ .read → l.prdK.toNat < l.cmdCount.toNat) ∧ (l.done = true → l.cnsK = l.cmdCount) ∧
      l.req.length ≤ c.chanDepth ∧ l.rsp.length ≤ c.chanDepth := by
  simp [Lane.Ok, hv]

/-- A counter below another word does not wrap. -/
theorem toNat_add_one_of_lt {x y : Word} (h : x.toNat < y.toNat) : (x + 1#32).toNat = x.toNat + 1 :=
  BitVec.toNat_add_of_lt (by simpa using Nat.lt_of_le_of_lt h y.isLt)

/-- A committed lane has every pair of its command written, so nothing is in flight (R54 d, R246). -/
theorem Lane.Ok.holdsNothing_of_done {c : Config} {l : Lane} (hok : Lane.Ok c l) (hd : l.done = true) :
    l.holdsNothing = true := by
  obtain ⟨hfree, hcount, hphase, hdone, -⟩ := hok
  cases hv : l.cmdValid with
  | false => exact (hfree hv).1
  | true =>
    obtain ⟨hsent, hle⟩ := hcount hv
    rw [hdone hd] at hsent
    refine Lane.holdsNothing_iff.mpr ⟨by omega, ?_⟩
    by_contra hne
    have := hphase hne
    omega

/-- Every step of a lane keeps the lane's invariant. -/
theorem Lane.Moves.ok {c : Config} {l m : Lane} (h : l.Moves c m) (hok : Lane.Ok c l) : Lane.Ok c m := by
  have hv := h.cmdValid hok
  obtain ⟨⟨hsent, hle⟩, hphase, hdone, hreq, hrsp⟩ := (Lane.ok_iff_of_command hv).mp hok
  rw [Lane.ok_iff_of_command (h.command_eq.1.trans hv)]
  cases h with
  | pairRead p _ hk => exact ⟨⟨hsent, hle⟩, fun _ => hk, hdone, hreq, hrsp⟩
  | padded hpad => exact ⟨⟨hsent, hle⟩, fun _ => hphase (by simp [hpad]), hdone, hreq, hrsp⟩
  | blockSent hsend hroom =>
    have hk := hphase (by simp [hsend])
    refine ⟨?_, fun hne => absurd rfl hne, hdone, by simpa using hroom, hrsp⟩
    simp only [Lane.inFlight_blockSent, Lane.blockSent_prdK, Lane.blockSent_cnsK, Lane.blockSent_cmdCount,
      toNat_add_one_of_lt hk]
    omega
  | blockTaken hidle heq =>
    rw [Lane.inFlight_blockTaken hidle heq]
    refine ⟨⟨hsent, hle⟩, hphase, hdone, ?_, hrsp⟩
    simp only [heq, List.length_cons] at hreq
    simpa using Nat.le_of_succ_le hreq
  | compressed hcomp =>
    rw [Lane.inFlight_compressed hcomp]
    exact ⟨⟨hsent, hle⟩, hphase, hdone, hreq, hrsp⟩
  | digestSent hout hroom =>
    rw [Lane.inFlight_digestSent hout]
    exact ⟨⟨hsent, hle⟩, hphase, hdone, hreq, by simpa using hroom⟩
  | digestTaken hrecv heq =>
    rw [Lane.inFlight_digestTaken hrecv heq]
    refine ⟨⟨hsent, hle⟩, hphase, hdone, hreq, ?_⟩
    simp only [heq, List.length_cons] at hrsp
    simpa using Nat.le_of_succ_le hrsp
  | nodeWritten hwrite =>
    have hfl := Lane.inFlight_of_write hwrite
    have hk : l.cnsK.toNat < l.cmdCount.toNat := by omega
    have hnot : l.done ≠ true := fun hd => by
      obtain ⟨hzero, -⟩ := Lane.holdsNothing_iff.mp (hok.holdsNothing_of_done hd)
      omega
    refine ⟨?_, hphase, fun hd => absurd hd hnot, hreq, hrsp⟩
    simp only [Lane.nodeWritten_prdK, Lane.nodeWritten_cnsK, Lane.nodeWritten_cmdCount, toNat_add_one_of_lt hk]
    omega
  | committed _ hk => exact ⟨⟨hsent, hle⟩, hphase, fun _ => hk, hreq, hrsp⟩

/-! ### What the conditions of the lane steps say -/

theorem Lane.readReady_iff {l : Lane} : l.readReady = true ↔
    l.cmdValid = true ∧ l.prdPhase = .read ∧ l.prdK.toNat < l.cmdCount.toNat := by
  simp [Lane.readReady, and_assoc]

theorem Lane.padReady_iff {l : Lane} : l.padReady = true ↔ l.prdPhase = .pad := by
  simp [Lane.padReady]

theorem Lane.sendReady_iff {c : Config} {l : Lane} : l.sendReady c = true ↔
    l.prdPhase = .send ∧ l.req.length < c.chanDepth := by
  simp [Lane.sendReady]

theorem Lane.engRecvReady_iff {l : Lane} : l.engRecvReady = true ↔ l.engPhase = .idle ∧ l.req ≠ [] := by
  simp [Lane.engRecvReady]

theorem Lane.compressReady_iff {l : Lane} : l.compressReady = true ↔ l.engPhase = .compute := by
  simp [Lane.compressReady]

theorem Lane.engSendReady_iff {c : Config} {l : Lane} : l.engSendReady c = true ↔
    l.engPhase = .out ∧ l.rsp.length < c.chanDepth := by
  simp [Lane.engSendReady]

theorem Lane.recvReady_iff {l : Lane} : l.recvReady = true ↔
    l.cmdValid = true ∧ l.cnsPhase = .recv ∧ l.cnsK.toNat < l.cmdCount.toNat ∧ l.rsp ≠ [] := by
  simp [Lane.recvReady, and_assoc]

theorem Lane.writeReady_iff {l : Lane} : l.writeReady = true ↔ l.cnsPhase = .write := by
  simp [Lane.writeReady]

theorem Lane.doneReady_iff {l : Lane} : l.doneReady = true ↔
    l.cmdValid = true ∧ l.done = false ∧ l.cnsPhase = .recv ∧ l.cnsK = l.cmdCount := by
  simp [Lane.doneReady, and_assoc]

/-! ### What a lane step answers -/

/-- All that a step of lane `i` can answer in a state: a stop, a wait, or one move of that lane, with at most a write to
NodeMem beside it. -/
inductive LaneAnswer (s : State) (i : Nat) : Result State → Prop
  | noSuchLane : LaneAnswer s i (.refused .noSuchLane)
  | outOfRange : LaneAnswer s i (.fault .addressOutOfRange)
  | waited : LaneAnswer s i (.next s)
  | moved {l m : Lane} (hl : s.lanes[i]? = some l) (hm : l.Moves s.cfg m) : LaneAnswer s i (.next (s.setLane i m))
  | wrote {l m : Lane} {a : Nat} {ws : List Word} (hl : s.lanes[i]? = some l) (hm : l.Moves s.cfg m)
      (hr : a + ws.length ≤ Space.size s.cfg .node) :
      LaneAnswer s i (.next ((s.withMem .node (Memory.writeWords s.nodeMem a ws)).setLane i m))

theorem LaneAnswer.of_laneStep {lane : BitVec 8} {s : State} {ready : Lane → Bool} {act : Lane → Result State}
    (h : ∀ l, s.lanes[lane.toNat]? = some l → ready l = true → LaneAnswer s lane.toNat (act l)) :
    LaneAnswer s lane.toNat (laneStep lane s ready act) := by
  rcases laneStep_cases lane s ready act with ⟨-, heq⟩ | ⟨l, -, -, heq⟩ | ⟨l, hl, hr, heq⟩
  · exact heq ▸ .noSuchLane
  · exact heq ▸ .waited
  · exact heq ▸ h l hl hr

theorem execPrdRead_answer (lane : BitVec 8) (s : State) : LaneAnswer s lane.toNat (execPrdRead lane s) := by
  rcases execPrdRead_cases lane s with ⟨-, heq⟩ | ⟨l, -, -, heq⟩ | ⟨l, hl, hr, ⟨-, heq⟩ | ⟨-, heq⟩⟩
  · exact heq ▸ .noSuchLane
  · exact heq ▸ .waited
  · obtain ⟨hv, -, hk⟩ := Lane.readReady_iff.mp hr
    exact heq ▸ .moved hl (.pairRead _ hv hk)
  · exact heq ▸ .outOfRange

theorem execCnsWrite_answer (lane : BitVec 8) (s : State) : LaneAnswer s lane.toNat (execCnsWrite lane s) := by
  rcases execCnsWrite_cases lane s with ⟨-, heq⟩ | ⟨l, -, -, heq⟩ | ⟨l, hl, hr, ⟨hsize, heq⟩ | ⟨-, heq⟩⟩
  · exact heq ▸ .noSuchLane
  · exact heq ▸ .waited
  · exact heq ▸ .wrote hl (.nodeWritten (Lane.writeReady_iff.mp hr)) (by simpa using hsize)
  · exact heq ▸ .outOfRange

/-- Each of the nine lane steps answers in one of these ways. -/
theorem exec_laneAnswer {i : Instr} {lane : BitVec 8} (h : i.lane? = some lane) (s : State) :
    LaneAnswer s lane.toNat (exec i s) := by
  cases i with
  | prdRead j => cases h; exact execPrdRead_answer lane s
  | prdPad j => cases h; exact .of_laneStep fun l hl hr => .moved hl (.padded (Lane.padReady_iff.mp hr))
  | prdSend j =>
    cases h
    refine .of_laneStep fun l hl hr => ?_
    obtain ⟨hsend, hroom⟩ := Lane.sendReady_iff.mp hr
    exact .moved hl (.blockSent hsend hroom)
  | engRecv j =>
    cases h
    refine .of_laneStep fun l hl hr => ?_
    obtain ⟨hidle, hne⟩ := Lane.engRecvReady_iff.mp hr
    obtain ⟨b, rest, hreq⟩ := List.exists_cons_of_ne_nil hne
    rw [chanRecv_eq_some.mpr hreq]
    exact .moved hl (.blockTaken hidle hreq)
  | engCompress j => cases h; exact .of_laneStep fun l hl hr => .moved hl (.compressed (Lane.compressReady_iff.mp hr))
  | engSend j =>
    cases h
    refine .of_laneStep fun l hl hr => ?_
    obtain ⟨hout, hroom⟩ := Lane.engSendReady_iff.mp hr
    exact .moved hl (.digestSent hout hroom)
  | cnsRecv j =>
    cases h
    refine .of_laneStep fun l hl hr => ?_
    obtain ⟨-, hrecv, -, hne⟩ := Lane.recvReady_iff.mp hr
    obtain ⟨d, rest, hrsp⟩ := List.exists_cons_of_ne_nil hne
    rw [chanRecv_eq_some.mpr hrsp]
    exact .moved hl (.digestTaken hrecv hrsp)
  | cnsWrite j => cases h; exact execCnsWrite_answer lane s
  | cnsDone j =>
    cases h
    refine .of_laneStep fun l hl hr => ?_
    obtain ⟨hv, -, -, hk⟩ := Lane.doneReady_iff.mp hr
    exact .moved hl (.committed hv hk)
  | _ => cases h

/-! ### The invariant under a lane's move and under a write to a memory -/

/-- A lane's move keeps the invariant: its command stays, and every other lane and the orchestrator are as before. -/
theorem State.Inv.setLane {s : State} {i : Nat} {l m : Lane} (h : s.Inv) (hl : s.lanes[i]? = some l)
    (hm : l.Moves s.cfg m) : (s.setLane i m).Inv := by
  obtain ⟨hcfg, ⟨hlen, hlanes⟩, hmem, hidle, hvalid, hcmd, hlevel⟩ := h
  obtain ⟨hv, hlv, hct⟩ := hm.command_eq
  have hlmem : l ∈ s.lanes := List.mem_of_getElem? hl
  refine ⟨hcfg, ⟨by simpa using hlen, fun x hx => ?_⟩, hmem, hidle, fun x hx => ?_, fun hd p hp => ?_, hlevel⟩
  · rcases List.mem_or_eq_of_mem_set hx with hx | rfl
    · exact hlanes x hx
    · exact hm.ok (hlanes l hlmem)
  · rcases List.mem_or_eq_of_mem_set hx with hx | rfl
    · exact hvalid x hx
    · exact hv.trans (hvalid l hlmem)
  · have hold (j : Nat) (x : Lane) (hx : s.lanes[j]? = some x) := hcmd hd (x, j) (List.mem_zipIdx_iff_getElem?.mpr hx)
    obtain ⟨x, j⟩ := p
    have hx : (s.lanes.set i m)[j]? = some x := List.mem_zipIdx_iff_getElem?.mp hp
    by_cases hij : i = j
    · subst hij
      rw [List.getElem?_set_self (List.getElem?_eq_some_iff.mp hl).1] at hx
      cases hx
      obtain ⟨hlevelEq, hcount⟩ := hold i l hl
      exact ⟨hlv.trans hlevelEq, (congrArg BitVec.toNat hct).trans hcount⟩
    · rw [List.getElem?_set_ne hij] at hx
      exact hold j x hx

/-- A write within a memory's range keeps the memory canonical and within its space. -/
theorem Memory.writeWords_within {m : Memory} {a n : Nat} {ws : List Word} (hr : a + ws.length ≤ n)
    (h : ∀ p ∈ m, p.1 < n) : ∀ p ∈ Memory.writeWords m a ws, p.1 < n := by
  intro p hp
  rcases Memory.mem_writeWords hp with hp | ⟨-, hp⟩
  · exact h p hp
  · omega

theorem State.Inv.withMem {s : State} {sp : Space} {a : Nat} {ws : List Word} (h : s.Inv)
    (hr : a + ws.length ≤ Space.size s.cfg sp) : (s.withMem sp (Memory.writeWords (s.memOf sp) a ws)).Inv := by
  obtain ⟨hcfg, hlanes, ⟨hleaf, hnode, hleafIn, hnodeIn⟩, horc⟩ := h
  cases sp with
  | leaf => exact ⟨hcfg, hlanes, ⟨Memory.wf_writeWords hleaf, hnode, Memory.writeWords_within hr hleafIn, hnodeIn⟩, horc⟩
  | node => exact ⟨hcfg, hlanes, ⟨hleaf, Memory.wf_writeWords hnode, hleafIn, Memory.writeWords_within hr hnodeIn⟩, horc⟩

theorem LaneAnswer.keeps_inv {s t : State} {i : Nat} {r : Result State} (h : LaneAnswer s i r) (hr : r = .next t)
    (hinv : s.Inv) : t.Inv := by
  cases h with
  | noSuchLane | outOfRange => cases hr
  | waited => cases hr; exact hinv
  | moved hl hm => cases hr; exact hinv.setLane hl hm
  | wrote hl hm hsize => cases hr; exact (hinv.withMem hsize).setLane hl hm

/-! ### The invariant's part about the orchestrator -/

/-- Outside INTERNAL_LEVEL and ROOT no command is out, and nothing is asked of the registers (R54 a). -/
theorem State.orcOk_of_not_producing {s : State} (hp : s.fsm.producing = false) (hd : s.dispatched = false)
    (hv : ∀ l ∈ s.lanes, l.cmdValid = false)
    (hlevel : s.fsm = .idle ∨ s.fsm = .leafLevel ∨ s.fsm = .error → s.curLevel = 0#5)
    (herr : s.fsm = .error ↔ s.errCode ≠ .none) : s.OrcOk := by
  refine ⟨fun _ => hd, fun l hl => (hv l hl).trans hd.symm, fun h => ?_, fun h => ?_, fun h => ?_, fun h => ?_, hlevel,
    herr⟩
  · cases hd.symm.trans h
  · cases hp.symm.trans h
  · rw [h] at hp; cases hp
  · rw [h] at hp; cases hp

/-- A level is entered with no command out, after a passing check, at the number that R39 gives it. -/
theorem State.orcOk_of_level_entered {s : State} (hd : s.dispatched = false) (hv : ∀ l ∈ s.lanes, l.cmdValid = false)
    (hc : s.check = .none) (herr : s.errCode = .none)
    (hlevel : (s.fsm = .internalLevel ∧ s.curLevel.toNat < roundsOf s.leaves) ∨
      (s.fsm = .root ∧ s.curLevel.toNat = roundsOf s.leaves)) : s.OrcOk := by
  have hcmd (h : s.dispatched = true) : False := by cases hd.symm.trans h
  rcases hlevel with ⟨hf, hr⟩ | ⟨hf, hr⟩ <;>
    exact ⟨fun _ => hd, fun l hl => (hv l hl).trans hd.symm, fun h => (hcmd h).elim, fun _ => hc, by simp [hf, hr],
      by simp [hf, hr], by simp [hf], by simp [hf, herr]⟩

theorem State.Inv.no_command {s : State} (h : s.Inv) (hp : s.fsm.producing = false) :
    s.dispatched = false ∧ ∀ l ∈ s.lanes, l.cmdValid = false := by
  obtain ⟨-, -, -, hidle, hvalid, -⟩ := h
  exact ⟨hidle hp, fun l hl => (hvalid l hl).trans (hidle hp)⟩

theorem State.Inv.errCode_eq_none {s : State} (h : s.Inv) (hf : s.fsm ≠ .error) : s.errCode = .none := by
  obtain ⟨-, -, -, -, -, -, -, -, -, -, herr⟩ := h
  by_contra hne
  exact hf (herr.mpr hne)

/-! ### What a passing check says of the leaf count (R204) -/

theorem one_le_log2_of_check {s : State} (h : s.check = .none) : 1 ≤ Nat.log2 s.leaves := by
  have hL : 2 ≤ s.leaves := by
    by_contra hlt
    have hcode : s.check = .cfgLeafCnt := if_pos (.inl (Nat.lt_of_not_le hlt))
    cases hcode.symm.trans h
  exact (Nat.le_log2 (by omega)).mpr hL

theorem log2_le_of_check {s : State} (h : s.check = .none) : Nat.log2 s.leaves ≤ s.cfg.maxLog2Leaves := by
  by_contra hlt
  unfold State.check checkConfig at h
  split_ifs at h
  exact hlt (by simpa [State.leaves] using ‹¬ Nat.log2 s.leafCnt.toNat > s.cfg.maxLog2Leaves›)

/-- In a legal build a level's number is at most 27, so it fits the five bits of `cur_level` (R8, R39). -/
theorem State.Inv.roundsOf_lt {s : State} (h : s.Inv) (hc : s.check = .none) : roundsOf s.leaves < 2 ^ 5 := by
  have hmax : s.cfg.maxLog2Leaves ≤ 28 := by
    obtain ⟨hcfg, -⟩ := h
    simp only [Config.wf, Bool.and_eq_true, decide_eq_true_eq] at hcfg
    exact hcfg.2
  have := log2_le_of_check hc
  unfold roundsOf
  omega

/-! ### The orchestrator's steps -/

theorem execOrcCheck_cases (s : State) :
    execOrcCheck s = .next s ∨
    (s.fsm = .leafLevel ∧ s.check = .none ∧ execOrcCheck s = .next s.checkPassed) ∨
    (s.fsm = .leafLevel ∧ s.check ≠ .none ∧ execOrcCheck s = .next (s.raiseError s.check)) := by
  by_cases hf : s.fsm = .leafLevel
  · by_cases hc : s.check = .none
    · exact .inr (.inl ⟨hf, hc, by simp [execOrcCheck, State.checkReady, hf, hc]⟩)
    · exact .inr (.inr ⟨hf, hc, by simp [execOrcCheck, State.checkReady, hf, hc]⟩)
  · exact .inl (by simp [execOrcCheck, State.checkReady, hf])

/-- The state in which every lane has its command for the current level (R206). -/
def State.allCommanded (s : State) : State :=
  { s with lanes := s.lanes.mapIdx s.commandLane, dispatched := true }

theorem execOrcDispatch_cases (s : State) :
    execOrcDispatch s = .next s ∨
    (s.fsm.producing = true ∧ s.dispatched = false ∧ execOrcDispatch s = .next s.allCommanded) := by
  unfold execOrcDispatch
  split
  · rename_i hr
    simp only [State.dispatchReady, Bool.and_eq_true, Bool.not_eq_true'] at hr
    exact .inr ⟨hr.1, hr.2, rfl⟩
  · exact .inl rfl

/-- The state in which every lane is released and the next level is entered (R213). -/
def State.joined (s : State) : State :=
  { s with
    lanes := s.lanes.map Lane.released
    dispatched := false
    fsm := s.nextLevel.1
    curLevel := s.nextLevel.2 }

theorem execOrcJoin_cases (s : State) :
    execOrcJoin s = .next s ∨
    (s.fsm.producing = true ∧ (∀ l ∈ s.lanes, l.done = true) ∧ execOrcJoin s = .next s.joined) := by
  unfold execOrcJoin
  split
  · rename_i hr
    simp only [State.joinReady, Bool.and_eq_true, List.all_eq_true] at hr
    obtain ⟨⟨hp, -⟩, hdone⟩ := hr
    exact .inr ⟨hp, hdone, rfl⟩
  · exact .inl rfl

theorem State.Inv.checkPassed {s : State} (h : s.Inv) (hf : s.fsm = .leafLevel) (hc : s.check = .none) :
    s.checkPassed.Inv := by
  have hlog := one_le_log2_of_check hc
  have herr : s.errCode = .none := h.errCode_eq_none (by simp [hf])
  obtain ⟨-, hv⟩ := h.no_command (by rw [hf]; rfl)
  obtain ⟨hcfg, hlanes, hmem, -⟩ := h
  refine ⟨hcfg, hlanes, hmem, State.orcOk_of_level_entered rfl hv hc herr ?_⟩
  change _ ∧ 0 < Nat.log2 s.leaves - 1 ∨ _ ∧ 0 = Nat.log2 s.leaves - 1
  by_cases h1 : Nat.log2 s.leaves = 1
  · exact .inr ⟨by simp [h1], by omega⟩
  · exact .inl ⟨by simp [h1], by omega⟩

theorem State.Inv.raiseError {s : State} {c : ErrCode} (h : s.Inv) (hp : s.fsm.producing = false) (hc : c ≠ .none) :
    (s.raiseError c).Inv := by
  obtain ⟨-, hv⟩ := h.no_command hp
  obtain ⟨hcfg, hlanes, hmem, -⟩ := h
  exact ⟨hcfg, hlanes, hmem, State.orcOk_of_not_producing rfl rfl hv (fun _ => rfl) (by simpa using hc)⟩

/-- A lane's pairs of a level are among the level's (R186). -/
theorem lanePairs_le (P N i : Nat) : lanePairs P N i ≤ P := by
  unfold lanePairs
  split
  · exact Nat.zero_le P
  · have := Nat.div_le_self (P - 1 - i) N
    omega

/-- No level has more pairs than LEAF_CNT's word can say, so a command's count does not wrap. -/
theorem State.commandLane_cmdCount_toNat (s : State) (i : Nat) (l : Lane) :
    (s.commandLane i l).cmdCount.toNat = lanePairs (nodeCount s.leaves s.curLevel.toNat) s.cfg.lanes i := by
  have hpairs := lanePairs_le (nodeCount s.leaves s.curLevel.toNat) s.cfg.lanes i
  have hnodes : nodeCount s.leaves s.curLevel.toNat ≤ s.leaves := Nat.shiftRight_le _ _
  have hleaves : s.leaves < 2 ^ 32 := s.leafCnt.isLt
  rw [Lane.commandLane_cmdCount, BitVec.toNat_ofNat, Nat.mod_eq_of_lt (by omega)]

/-- A lane that holds nothing keeps its invariant when it is given a command. -/
theorem Lane.Ok.commandLane {c : Config} {l : Lane} (hok : Lane.Ok c l) (hv : l.cmdValid = false) (s : State) (i : Nat) :
    Lane.Ok c (s.commandLane i l) := by
  obtain ⟨hfree, -, -, -, hreq, hrsp⟩ := hok
  have hnothing : (s.commandLane i l).holdsNothing = true := by
    have := (hfree hv).1
    simp_all [Lane.holdsNothing]
  have hzero := (Lane.holdsNothing_iff.mp hnothing).1
  rw [Lane.ok_iff_of_command (Lane.commandLane_cmdValid l s i), hzero]
  simpa using And.intro hreq hrsp

theorem State.Inv.allCommanded {s : State} (h : s.Inv) (hp : s.fsm.producing = true) (hd : s.dispatched = false) :
    s.allCommanded.Inv := by
  obtain ⟨hcfg, ⟨hlen, hlanes⟩, hmem, -, hvalid, -, hlevel⟩ := h
  refine ⟨hcfg, ⟨by simpa [State.allCommanded] using hlen, fun m hm => ?_⟩, hmem, fun hnp => ?_, fun m hm => ?_,
    fun _ p hpm => ?_, hlevel⟩
  · obtain ⟨i, hi, rfl⟩ := List.mem_mapIdx.mp hm
    have hmem : s.lanes[i] ∈ s.lanes := List.getElem_mem hi
    exact (hlanes _ hmem).commandLane ((hvalid _ hmem).trans hd) s i
  · cases hp.symm.trans hnp
  · obtain ⟨i, hi, rfl⟩ := List.mem_mapIdx.mp hm
    rfl
  · obtain ⟨m, i⟩ := p
    have hm : (s.lanes.mapIdx s.commandLane)[i]? = some m := List.mem_zipIdx_iff_getElem?.mp hpm
    rw [List.getElem?_mapIdx, Option.map_eq_some_iff] at hm
    obtain ⟨l, -, rfl⟩ := hm
    exact ⟨rfl, s.commandLane_cmdCount_toNat i l⟩

/-- A lane that holds nothing keeps its invariant when the barrier releases it. -/
theorem Lane.Ok.released {c : Config} {l : Lane} (hok : Lane.Ok c l) (hd : l.done = true) : Lane.Ok c l.released := by
  have hnothing := hok.holdsNothing_of_done hd
  obtain ⟨-, hread⟩ := Lane.holdsNothing_iff.mp hnothing
  obtain ⟨-, -, -, -, hreq, hrsp⟩ := hok
  exact ⟨fun _ => ⟨hnothing, rfl⟩, nofun, fun hne => absurd hread hne, nofun, hreq, hrsp⟩

/-- All that a join can enter (R202, R213). -/
theorem State.nextLevel_cases {s : State} (hp : s.fsm.producing = true) :
    (s.fsm = .internalLevel ∧ s.curLevel.toNat + 1 < roundsOf s.leaves ∧
      s.nextLevel = (.internalLevel, s.curLevel + 1#5)) ∨
    (s.fsm = .internalLevel ∧ ¬ s.curLevel.toNat + 1 < roundsOf s.leaves ∧
      s.nextLevel = (.root, BitVec.ofNat 5 (roundsOf s.leaves))) ∨
    (s.fsm = .root ∧ s.nextLevel = (.done, s.curLevel)) := by
  cases hf : s.fsm with
  | internalLevel =>
    by_cases hr : s.curLevel.toNat + 1 < roundsOf s.leaves
    · exact .inl ⟨rfl, hr, by simp [State.nextLevel, hf, hr]⟩
    · exact .inr (.inl ⟨rfl, hr, by simp [State.nextLevel, hf, hr]⟩)
  | root => exact .inr (.inr ⟨rfl, by simp [State.nextLevel, hf]⟩)
  | idle | leafLevel | done | error => rw [hf] at hp; cases hp

theorem State.Inv.joined {s : State} (h : s.Inv) (hp : s.fsm.producing = true) (hdone : ∀ l ∈ s.lanes, l.done = true) :
    s.joined.Inv := by
  have herr : s.errCode = .none := h.errCode_eq_none fun hf => by rw [hf] at hp; cases hp
  have hc : s.check = .none := by
    obtain ⟨-, -, -, -, -, -, hcheck, -⟩ := h
    exact hcheck hp
  have hrounds := h.roundsOf_lt hc
  obtain ⟨hcfg, ⟨hlen, hlanes⟩, hmem, -⟩ := h
  have hv : ∀ m ∈ s.joined.lanes, m.cmdValid = false := by
    intro m hm
    obtain ⟨l, -, rfl⟩ := List.mem_map.mp hm
    rfl
  refine ⟨hcfg, ⟨by simpa [State.joined] using hlen, fun m hm => ?_⟩, hmem, ?_⟩
  · obtain ⟨l, hl, rfl⟩ := List.mem_map.mp hm
    exact (hlanes l hl).released (hdone l hl)
  · have hfsm : s.joined.fsm = s.nextLevel.1 := rfl
    have hcur : s.joined.curLevel = s.nextLevel.2 := rfl
    rcases State.nextLevel_cases hp with ⟨-, hr, hnext⟩ | ⟨-, -, hnext⟩ | ⟨-, hnext⟩ <;> rw [hnext] at hfsm hcur
    · refine State.orcOk_of_level_entered rfl hv hc herr (.inl ⟨hfsm, ?_⟩)
      rw [hcur, BitVec.toNat_add_of_lt (by simp; omega)]
      exact hr
    · refine State.orcOk_of_level_entered rfl hv hc herr (.inr ⟨hfsm, ?_⟩)
      rw [hcur, BitVec.toNat_ofNat, Nat.mod_eq_of_lt hrounds]
      rfl
    · refine State.orcOk_of_not_producing (by rw [hfsm]; rfl) rfl hv (by simp [hfsm]) ?_
      have hnone : s.joined.errCode = .none := herr
      simp [hfsm, hnone]

/-! ### The Host's steps -/

theorem State.not_producing_of_not_busy {s : State} (h : s.busy = false) : s.fsm.producing = false := by
  unfold State.busy at h
  cases hf : s.fsm <;> simp_all [Fsm.busy, Fsm.producing]

/-- While the block is not BUSY no part of the invariant reads LEAF_CNT, IN_WORDS or OUT_WORDS. -/
theorem State.Inv.withRegisters {s : State} (h : s.Inv) (hb : s.busy = false) (leafCnt inWords outWords : Word) :
    State.Inv { s with leafCnt := leafCnt, inWords := inWords, outWords := outWords } := by
  have hp := State.not_producing_of_not_busy hb
  obtain ⟨hd, hv⟩ := h.no_command hp
  obtain ⟨hcfg, hlanes, hmem, -, -, -, -, -, -, hlevel, herr⟩ := h
  exact ⟨hcfg, hlanes, hmem, State.orcOk_of_not_producing hp hd hv hlevel herr⟩

theorem State.Inv.start {s : State} (h : s.Inv) (hb : s.busy = false) : s.start.Inv := by
  obtain ⟨-, hv⟩ := h.no_command (State.not_producing_of_not_busy hb)
  obtain ⟨hcfg, hlanes, hmem, -⟩ := h
  exact ⟨hcfg, hlanes, hmem, State.orcOk_of_not_producing rfl rfl hv (fun _ => rfl) (by simp)⟩

/-- A register write acts only while the block is not BUSY (R265, R267). -/
theorem State.Inv.regWrite {s : State} (h : s.Inv) (idx : BitVec 4) (data : Word) : (s.regWrite idx data).Inv := by
  rcases State.regWrite_cases s idx data with
    ⟨-, -, hb, heq⟩ | ⟨-, hb, heq⟩ | ⟨-, hb, heq⟩ | ⟨-, hb, heq⟩ | heq <;> rw [heq]
  · exact h.start hb
  · exact h.withRegisters hb data s.inWords s.outWords
  · exact h.withRegisters hb s.leafCnt data s.outWords
  · exact h.withRegisters hb s.leafCnt s.inWords data
  · exact h

/-- A lane at its reset values keeps its invariant, whatever its buffers hold (R52, R53). -/
theorem Lane.ok_resetWith (c : Config) (buf : LaneBuffers) : Lane.Ok c (Lane.resetWith buf) := by
  simp [Lane.Ok, Lane.resetWith, Lane.holdsNothing]

theorem State.Inv.resetBlock {s : State} (h : s.Inv) : s.resetBlock.Inv := by
  obtain ⟨hcfg, ⟨hlen, -⟩, hmem, -⟩ := h
  refine ⟨hcfg, ⟨by simpa using hlen, fun l hl => ?_⟩, hmem,
    State.orcOk_of_not_producing rfl rfl (fun l hl => ?_) (fun _ => rfl) (by simp)⟩
  · obtain ⟨i, -, rfl⟩ := List.mem_mapIdx.mp hl
    exact Lane.ok_resetWith _ _
  · obtain ⟨i, -, rfl⟩ := List.mem_mapIdx.mp hl
    rfl

/-! ### Every instruction -/

/-- Every instruction is a Host access, RESET, one of the orchestrator's three steps or a step of a lane (R124). -/
theorem Instr.agent_cases (i : Instr) :
    i.kind = .hostRd ∨ i.kind = .hostWr ∨ i = .reset ∨ i = .orcCheck ∨ i = .orcDispatch ∨ i = .orcJoin ∨
      ∃ lane, i.lane? = some lane := by
  cases i <;> simp [Instr.kind, Instr.lane?]

/-- The 17 read accesses are each a Host read of one register index (R260). -/
theorem exec_of_hostRd {i : Instr} (h : i.kind = .hostRd) (s : State) : ∃ idx, exec i s = hostRead idx s := by
  cases i with
  | rdCtrl | rdStatus | rdLeafCnt | rdInWords | rdOutWords | rdConfig | hostRd => exact ⟨_, rfl⟩
  | rdRsvd6 | rdRsvd7 | rdRsvd8 | rdRsvd9 | rdRsvd10 | rdRsvd11 | rdRsvd12 | rdRsvd13 | rdRsvd14 | rdRsvd15 =>
    exact ⟨_, rfl⟩
  | _ => cases h

/-- The 17 write accesses are each a Host write of one register index (R260). -/
theorem exec_of_hostWr {i : Instr} (h : i.kind = .hostWr) (s : State) : ∃ idx data, exec i s = hostWrite idx data s := by
  cases i with
  | wrCtrl | wrStatus | wrLeafCnt | wrInWords | wrOutWords | wrConfig | hostWr => exact ⟨_, _, rfl⟩
  | wrRsvd6 | wrRsvd7 | wrRsvd8 | wrRsvd9 | wrRsvd10 | wrRsvd11 | wrRsvd12 | wrRsvd13 | wrRsvd14 | wrRsvd15 =>
    exact ⟨_, _, rfl⟩
  | _ => cases h

/-- Every instruction's step keeps the invariant. -/
theorem exec_keeps_inv {i : Instr} {s t : State} (hinv : s.Inv) (h : exec i s = .next t) : t.Inv := by
  rcases Instr.agent_cases i with hrd | hwr | rfl | rfl | rfl | rfl | ⟨lane, hlane⟩
  · obtain ⟨idx, heq⟩ := exec_of_hostRd hrd s
    cases heq.symm.trans h
    exact hinv
  · obtain ⟨idx, data, heq⟩ := exec_of_hostWr hwr s
    cases heq.symm.trans h
    exact hinv.regWrite idx data
  · cases h
    exact hinv.resetBlock
  · rcases execOrcCheck_cases s with heq | ⟨hf, hc, heq⟩ | ⟨hf, hc, heq⟩ <;> cases heq.symm.trans h
    · exact hinv
    · exact hinv.checkPassed hf hc
    · exact hinv.raiseError (by rw [hf]; rfl) hc
  · rcases execOrcDispatch_cases s with heq | ⟨hp, hd, heq⟩ <;> cases heq.symm.trans h
    · exact hinv
    · exact hinv.allCommanded hp hd
  · rcases execOrcJoin_cases s with heq | ⟨hp, hdone, heq⟩ <;> cases heq.symm.trans h
    · exact hinv
    · exact hinv.joined hp hdone
  · exact (exec_laneAnswer hlane s).keeps_inv h hinv

/-- The only fault an instruction's step can answer is a memory access out of range: the assertions of R54 are the
machine's, not the step's (R289). -/
theorem exec_ne_assertionFailed (i : Instr) (s : State) : exec i s ≠ .fault .assertionFailed := by
  intro h
  rcases Instr.agent_cases i with hrd | hwr | rfl | rfl | rfl | rfl | ⟨lane, hlane⟩
  · obtain ⟨idx, heq⟩ := exec_of_hostRd hrd s
    cases heq.symm.trans h
  · obtain ⟨idx, data, heq⟩ := exec_of_hostWr hwr s
    cases heq.symm.trans h
  · cases h
  · rcases execOrcCheck_cases s with heq | ⟨-, -, heq⟩ | ⟨-, -, heq⟩ <;> cases heq.symm.trans h
  · rcases execOrcDispatch_cases s with heq | ⟨-, -, heq⟩ <;> cases heq.symm.trans h
  · rcases execOrcJoin_cases s with heq | ⟨-, -, heq⟩ <;> cases heq.symm.trans h
  · have hans := exec_laneAnswer hlane s
    rw [h] at hans
    cases hans

/-! ### Every step of the machine -/

/-- The invariant reads no field that only the model has: neither the inputs nor the history of a fetch. -/
theorem State.inv_fetched {s : State} {i : Instr} {data : Word} {rest : List Input} :
    (s.fetched i data rest).Inv ↔ s.Inv := Iff.rfl

theorem State.freeTurn_keeps_inv {s t : State} (hinv : s.Inv) (h : s.freeTurn = .next t) : t.Inv := by
  by_cases hnone : s.enabledSteps = []
  · cases (State.freeTurn_of_none_enabled hnone).symm.trans h
    exact hinv
  · obtain ⟨i, -, heq⟩ := State.freeTurn_of_some_enabled hnone
    exact exec_keeps_inv (s := { s with turn := s.turn + 1, history := eventAt i 0#32 s :: s.history }) hinv
      (heq.symm.trans h)

/-- Settles O45: each input's step and the free turn's keep the invariant, by the lemma of the agent that takes it. -/
theorem stepKeepsInvariant : Obligations.StepKeepsInvariant := by
  intro s t hinv h
  rcases step_cases s with ⟨-, heq⟩ | ⟨-, -, heq⟩ | ⟨f, rest, e, -, -, -, heq⟩ | ⟨f, rest, i, -, -, -, heq⟩ |
    ⟨sp, a, ws, rest, -, -, heq⟩ | ⟨sp, a, n, rest, -, -, heq⟩ <;> rw [heq] at h
  · cases h
  · exact State.freeTurn_keeps_inv hinv h
  · cases h
  · exact exec_keeps_inv (State.inv_fetched.mpr hinv) h
  · obtain ⟨-, hsize, rfl⟩ := hostStore_eq_next h
    exact State.Inv.withMem (s := { s with inputs := rest }) hinv hsize
  · obtain ⟨-, -, rfl⟩ := hostLoad_eq_next h
    exact hinv

/-! ### The invariant and R54's assertions -/

theorem Lane.inFlight_le {c : Config} {l : Lane} (hreq : l.req.length ≤ c.chanDepth) (hrsp : l.rsp.length ≤ c.chanDepth) :
    l.inFlight ≤ 2 * c.chanDepth + 2 := by
  have heng : l.engPhase.held ≤ 1 := by cases l.engPhase <;> decide
  have hcns : l.cnsPhase.held ≤ 1 := by cases l.cnsPhase <;> decide
  rw [Lane.inFlight_eq]
  omega

/-- A lane's invariant implies R54 (b), (c) and (d) for it. -/
theorem Lane.Ok.assertions {c : Config} {l : Lane} (hok : Lane.Ok c l) : l.assertions c = true := by
  obtain ⟨hfree, hcount, -, hdone, hreq, hrsp⟩ := hok
  have hfl := Lane.inFlight_le hreq hrsp
  have hd : (!l.done || l.cnsK == l.cmdCount) = true := by
    cases h : l.done with
    | false => rfl
    | true => simp [hdone h]
  unfold Lane.assertions
  rw [hd]
  cases hv : l.cmdValid with
  | false => simp [(hfree hv).1]
  | true =>
    obtain ⟨hsent, hle⟩ := hcount hv
    simp only [Lane.countersOk, Bool.true_or, Bool.not_true, Bool.false_or, Bool.true_and, Bool.and_true,
      Bool.and_eq_true, decide_eq_true_eq]
    omega

/-- The invariant implies R54 (a) to (e). -/
theorem State.Inv.assertions {s : State} (h : s.Inv) : s.assertions = true := by
  have hno := h.no_command
  obtain ⟨-, ⟨-, hlanes⟩, -⟩ := h
  have hfree (hp : s.fsm.producing = false) (l : Lane) (hl : l ∈ s.lanes) :
      l.holdsNothing = true ∧ l.done = false := by
    obtain ⟨hok, -⟩ := hlanes l hl
    exact hok ((hno hp).2 l hl)
  simp only [State.assertions, Bool.and_eq_true, Bool.or_eq_true, List.all_eq_true, Bool.not_eq_true', bne_iff_ne]
  refine ⟨⟨?_, fun l hl => (hlanes l hl).assertions⟩, ?_⟩
  · cases hp : s.fsm.producing with
    | true => exact .inl rfl
    | false => exact .inr ⟨(hno hp).1, fun l hl => ⟨(hno hp).2 l hl, (hfree hp l hl).2⟩⟩
  · by_cases hf : s.fsm = .idle
    · exact .inr fun l hl => (hfree (by rw [hf]; rfl) l hl).1
    · exact .inl hf

theorem State.freeTurn_ne_assertionFailed (s : State) : s.freeTurn ≠ .fault .assertionFailed := by
  by_cases hnone : s.enabledSteps = []
  · rw [State.freeTurn_of_none_enabled hnone]
    exact nofun
  · obtain ⟨i, -, heq⟩ := State.freeTurn_of_some_enabled hnone
    rw [heq]
    exact exec_ne_assertionFailed _ _

theorem hostStore_ne_assertionFailed (sp : Space) (a : Nat) (ws : List Word) (s : State) :
    hostStore sp a ws s ≠ .fault .assertionFailed := by
  unfold hostStore
  split
  · exact nofun
  · split <;> exact nofun

theorem hostLoad_ne_assertionFailed (sp : Space) (a n : Nat) (s : State) :
    hostLoad sp a n s ≠ .fault .assertionFailed := by
  unfold hostLoad
  split
  · exact nofun
  · split <;> exact nofun

/-- Only a state that breaks R54 stops a step with an assertion failure (R289). -/
theorem step_ne_assertionFailed {s : State} (h : s.assertions = true) : step s ≠ .fault .assertionFailed := by
  rcases step_cases s with ⟨ha, -⟩ | ⟨-, -, heq⟩ | ⟨f, rest, e, -, -, -, heq⟩ | ⟨f, rest, i, -, -, -, heq⟩ |
    ⟨sp, a, ws, rest, -, -, heq⟩ | ⟨sp, a, n, rest, -, -, heq⟩
  · cases ha.symm.trans h
  all_goals rw [heq]
  · exact s.freeTurn_ne_assertionFailed
  · exact nofun
  · exact exec_ne_assertionFailed _ _
  · exact hostStore_ne_assertionFailed _ _ _ _
  · exact hostLoad_ne_assertionFailed _ _ _ _

/-- Settles O46: R54's assertions are read off the invariant, and only their failure stops a step by that name. -/
theorem invariantImpliesAssertions : Obligations.InvariantImpliesAssertions := by
  intro s hinv
  exact ⟨hinv.assertions, step_ne_assertionFailed hinv.assertions⟩

end Sys2Proof.Machine
end

section
/-! The addresses of a tree of `2^K` leaves (spec/42_addressing.md): the share of a lane, the place of a Node in NodeMem, and
the source of a pair, as inequalities over the level's Node count. -/

namespace Sys2Proof.Machine

/-! ### A passing check (R204) -/

/-- A passing check leaves only a power of two (R204). -/
theorem two_pow_log2_leaves_of_check {s : State} (h : s.check = .none) : 2 ^ Nat.log2 s.leaves = s.leaves := by
  have hpow : s.leaves.isPowerOfTwo := by
    unfold State.check checkConfig at h
    split_ifs at h with hcnt
    push Not at hcnt
    exact (Nat.and_sub_one_eq_zero_iff_isPowerOfTwo (by unfold State.leaves; omega)).mp hcnt.2
  obtain ⟨k, hk⟩ := hpow
  rw [hk, Nat.log2_two_pow]

/-! ### Striping (R186, R187) -/

/-- Lane `i` has a `k`-th pair exactly if the level has the pair of that index (R186, R187). -/
theorem lt_lanePairs_iff {P N i k : Nat} (hN : 0 < N) : k < lanePairs P N i ↔ pairIndex N i k < P := by
  unfold lanePairs pairIndex
  split
  · have := Nat.zero_le (k * N)
    omega
  · rw [Nat.lt_succ_iff, Nat.le_div_iff_mul_le hN]
    omega

theorem pairIndex_mod {N i k : Nat} (hi : i < N) : pairIndex N i k % N = i := by
  rw [pairIndex, Nat.add_mul_mod_self_right, Nat.mod_eq_of_lt hi]

theorem pairIndex_div {N i k : Nat} (hi : i < N) : pairIndex N i k / N = k := by
  rw [pairIndex, Nat.add_mul_div_right _ _ (Nat.zero_lt_of_lt hi), Nat.div_eq_of_lt hi, Nat.zero_add]

/-- Pair `j` is the `j / N`-th of lane `j mod N`. -/
theorem pairIndex_mod_div (N j : Nat) : pairIndex N (j % N) (j / N) = j := by
  rw [pairIndex, Nat.mul_comm, Nat.mod_add_div]

/-! ### Levels (R180, R181) -/

theorem nodeCount_two_pow {K r : Nat} (hr : r < K) : nodeCount (2 ^ K) r = 2 ^ (K - 1 - r) := by
  rw [nodeCount, Nat.shiftRight_eq_div_pow, Nat.pow_div (by omega) (by omega)]
  congr 1
  omega

/-- Each level has half as many Nodes as the level below. -/
theorem nodeCount_eq_two_mul {K r : Nat} (hr : r + 1 < K) :
    nodeCount (2 ^ K) r = 2 * nodeCount (2 ^ K) (r + 1) := by
  rw [nodeCount_two_pow (by omega), nodeCount_two_pow hr, ← Nat.pow_succ']
  congr 1
  omega

/-- The lowest level has a Node for every two leaves. -/
theorem two_mul_nodeCount_zero {K : Nat} (hK : 0 < K) : 2 * nodeCount (2 ^ K) 0 = 2 ^ K := by
  rw [nodeCount_two_pow hK, ← Nat.pow_succ']
  congr 1
  omega

theorem nodeCount_pos {K r : Nat} (hr : r < K) : 0 < nodeCount (2 ^ K) r := by
  rw [nodeCount_two_pow hr]
  exact Nat.two_pow_pos _

theorem two_mul_nodeCount_le {K r : Nat} (hr : r < K) : 2 * nodeCount (2 ^ K) r ≤ 2 ^ K := by
  rw [nodeCount_two_pow hr, ← Nat.pow_succ']
  exact Nat.pow_le_pow_right (by omega) (by omega)

/-! ### Node addresses (R182, R185) -/

theorem pairDst_eq_nodeAddr (L r j : Nat) : pairDst L r j = nodeAddr L r j := rfl

/-- A level that has a Node puts Node `j` at eight words for each of the Nodes before it. -/
theorem nodeAddr_eq {L r j : Nat} : nodeAddr L r j = 8 * (nodeCount L r - 1 + j) := by
  rw [nodeAddr, levelOff]
  omega

/-- Every Node lies in the tree's region, words `0` to `8(L−1)−1` (R188 a). -/
theorem nodeAddr_add_le {K r j : Nat} (hr : r < K) (hj : j < nodeCount (2 ^ K) r) :
    nodeAddr (2 ^ K) r j + 8 ≤ 8 * (2 ^ K - 1) := by
  have := two_mul_nodeCount_le hr
  rw [nodeAddr_eq]
  omega

/-- The number of Nodes before a Node, plus one, tells the Node's level by its leading bit. -/
theorem log2_add_of_lt_nodeCount {K r j : Nat} (hr : r < K) (hj : j < nodeCount (2 ^ K) r) :
    Nat.log2 (nodeCount (2 ^ K) r + j) = K - 1 - r := by
  rw [nodeCount_two_pow hr] at hj ⊢
  have := Nat.two_pow_pos (K - 1 - r)
  rw [Nat.log2_eq_iff (by omega), Nat.pow_succ]
  omega

/-- Different Nodes have different addresses (R188 a). -/
theorem nodeAddr_injective {K r q j k : Nat} (hr : r < K) (hq : q < K) (hj : j < nodeCount (2 ^ K) r)
    (hk : k < nodeCount (2 ^ K) q) (h : nodeAddr (2 ^ K) r j = nodeAddr (2 ^ K) q k) : r = q ∧ j = k := by
  have hrpos := nodeCount_pos hr
  have hqpos := nodeCount_pos hq
  rw [nodeAddr_eq, nodeAddr_eq] at h
  have hsum : nodeCount (2 ^ K) r + j = nodeCount (2 ^ K) q + k := by omega
  have hlog : K - 1 - r = K - 1 - q := by
    rw [← log2_add_of_lt_nodeCount hr hj, ← log2_add_of_lt_nodeCount hq hk, hsum]
  obtain rfl : r = q := by omega
  exact ⟨rfl, by omega⟩

/-- Every multiple of eight in the tree's region is the address of a Node (R188 a). -/
theorem exists_nodeAddr_eq {K n : Nat} (hn : n < 2 ^ K - 1) :
    ∃ r j, r < K ∧ j < nodeCount (2 ^ K) r ∧ nodeAddr (2 ^ K) r j = 8 * n := by
  have hlog : Nat.log2 (n + 1) < K := (Nat.log2_lt (by omega)).mpr (by omega)
  have hr : K - 1 - Nat.log2 (n + 1) < K := by omega
  have hcount : nodeCount (2 ^ K) (K - 1 - Nat.log2 (n + 1)) = 2 ^ Nat.log2 (n + 1) := by
    rw [nodeCount_two_pow hr]
    congr 1
    omega
  have hle := Nat.log2_self_le (n := n + 1) (by omega)
  have hlt := Nat.lt_log2_self (n := n + 1)
  rw [Nat.pow_succ] at hlt
  have hpos := Nat.two_pow_pos (Nat.log2 (n + 1))
  refine ⟨_, n + 1 - 2 ^ Nat.log2 (n + 1), hr, ?_, ?_⟩
  · omega
  · rw [nodeAddr_eq, hcount]
    omega

/-- The Nodes of a level lie below the region of the level whose Nodes they are made from (R181, R184). -/
theorem nodeAddr_add_le_levelOff {K r j : Nat} (hr : r + 1 < K) (hj : j < nodeCount (2 ^ K) (r + 1)) :
    nodeAddr (2 ^ K) (r + 1) j + 8 ≤ levelOff (2 ^ K) r := by
  have := nodeCount_eq_two_mul hr
  rw [nodeAddr_eq, levelOff]
  omega

/-- The 16 words of every pair of the tree exist (R82, R83, R184). -/
theorem pairSrc_add_le {c : Config} {K r j : Nat} (hr : r < K) (hK : K ≤ c.maxLog2Leaves)
    (hj : j < nodeCount (2 ^ K) r) :
    (pairSrc (2 ^ K) r j).2 + 16 ≤ Space.size c (pairSrc (2 ^ K) r j).1 := by
  have hpow : 2 ^ K ≤ 2 ^ c.maxLog2Leaves := Nat.pow_le_pow_right (by omega) hK
  cases r with
  | zero =>
    have := two_mul_nodeCount_zero hr
    simp only [pairSrc, Space.size]
    omega
  | succ q =>
    have hhalf := nodeCount_eq_two_mul hr
    have := two_mul_nodeCount_le (r := q) (K := K) (by omega)
    simp only [pairSrc, Space.size, levelOff]
    omega

end Sys2Proof.Machine
end

section
/-! One turn of a lane as a function of its lane: what the lane becomes and what it stores, with the memory it reads and
writes in range in every state that keeps the invariant. From it O51, O52 and O40. -/

namespace Sys2Proof.Machine

/-! ### A lane with a command (R205, R206) -/

/-- A level that is produced is a level of the tree. -/
theorem State.Inv.curLevel_lt {s : State} (h : s.Inv) (hp : s.fsm.producing = true) :
    s.curLevel.toNat < Nat.log2 s.leaves := by
  obtain ⟨-, -, -, -, -, -, hcheck, hinternal, hroot, -⟩ := h
  have hlog := one_le_log2_of_check (hcheck hp)
  unfold roundsOf at hinternal hroot
  cases hf : s.fsm with
  | internalLevel => have := hinternal hf; omega
  | root => have := hroot hf; omega
  | idle | leafLevel | done | error => rw [hf] at hp; cases hp

/-- Lane `i` works on the current level of a tree that has passed the check. -/
structure State.Commands (s : State) (i : Nat) (l : Lane) : Prop where
  producing : s.fsm.producing = true
  dispatched : s.dispatched = true
  leaves : 2 ^ Nat.log2 s.leaves = s.leaves
  capacity : Nat.log2 s.leaves ≤ s.cfg.maxLog2Leaves
  level_lt : s.curLevel.toNat < Nat.log2 s.leaves
  lane_lt : i < s.cfg.lanes
  level : l.cmdLevel = s.curLevel
  count : l.cmdCount.toNat = lanePairs (nodeCount s.leaves s.curLevel.toNat) s.cfg.lanes i

theorem State.Inv.commands {s : State} {i : Nat} {l : Lane} (h : s.Inv) (hl : s.lanes[i]? = some l)
    (hv : l.cmdValid = true) : s.Commands i l := by
  have hlevel := h.curLevel_lt
  obtain ⟨-, ⟨hlen, -⟩, -, hidle, hvalid, hcmd, hcheck, -⟩ := h
  have hd : s.dispatched = true := (hvalid l (List.mem_of_getElem? hl)).symm.trans hv
  have hp : s.fsm.producing = true := by
    by_contra hne
    cases hd.symm.trans (hidle (by simpa using hne))
  obtain ⟨hlv, hct⟩ := hcmd hd (l, i) (List.mem_zipIdx_iff_getElem?.mpr hl)
  exact ⟨hp, hd, two_pow_log2_leaves_of_check (hcheck hp), log2_le_of_check (hcheck hp), hlevel hp,
    hlen ▸ (List.getElem?_eq_some_iff.mp hl).1, hlv, hct⟩

/-- The pairs of a lane's command are pairs of the level. -/
theorem State.Commands.lt_cmdCount_iff {s : State} {i : Nat} {l : Lane} (h : s.Commands i l) (k : Nat) :
    k < l.cmdCount.toNat ↔ pairIndex s.cfg.lanes i k < nodeCount s.leaves s.curLevel.toNat := by
  rw [h.count, lt_lanePairs_iff (Nat.zero_lt_of_lt h.lane_lt)]

theorem State.Inv.lane_ok {s : State} {i : Nat} {l : Lane} (h : s.Inv) (hl : s.lanes[i]? = some l) : Lane.Ok s.cfg l := by
  obtain ⟨-, ⟨-, hlanes⟩, -⟩ := h
  exact hlanes l (List.mem_of_getElem? hl)

/-- A digest in DB belongs to a pair of the lane's command. -/
theorem Lane.Ok.cnsK_lt_of_write {c : Config} {l : Lane} (hok : Lane.Ok c l) (hw : l.cnsPhase = .write) :
    l.cmdValid = true ∧ l.cnsK.toNat < l.cmdCount.toNat := by
  have hv := (Lane.Moves.nodeWritten hw : l.Moves c _).cmdValid hok
  have hfl := Lane.inFlight_of_write hw
  obtain ⟨⟨hsent, hle⟩, -⟩ := (Lane.ok_iff_of_command hv).mp hok
  exact ⟨hv, by omega⟩

/-- The offset CNS_WRITE stores at is that of a Node of the current level (R185, R187, R242). -/
theorem State.Commands.writeTarget_eq {s : State} {i : Nat} {l : Lane} (h : s.Commands i l) :
    s.writeTarget i l = nodeAddr s.leaves s.curLevel.toNat (pairIndex s.cfg.lanes i l.cnsK.toNat) := by
  rw [State.writeTarget, pairDst_eq_nodeAddr, h.level]

theorem State.Inv.of_write {s : State} {i : Nat} {l : Lane} (h : s.Inv) (hl : s.lanes[i]? = some l)
    (hw : l.cnsPhase = .write) :
    s.Commands i l ∧ pairIndex s.cfg.lanes i l.cnsK.toNat < nodeCount s.leaves s.curLevel.toNat := by
  obtain ⟨hv, hk⟩ := (h.lane_ok hl).cnsK_lt_of_write hw
  have hc := h.commands hl hv
  exact ⟨hc, (hc.lt_cmdCount_iff _).mp hk⟩

/-- CNS_WRITE stores inside the tree's region (R188 a). -/
theorem State.Inv.writeTarget_add_le {s : State} {i : Nat} {l : Lane} (h : s.Inv) (hl : s.lanes[i]? = some l)
    (hw : l.cnsPhase = .write) : s.writeTarget i l + 8 ≤ 8 * (s.leaves - 1) := by
  obtain ⟨hc, hj⟩ := h.of_write hl hw
  rw [← hc.leaves] at hj
  rw [hc.writeTarget_eq, ← hc.leaves]
  exact nodeAddr_add_le hc.level_lt hj

/-- CNS_WRITE stores at words that exist (R288). -/
theorem State.Inv.write_in_range {s : State} {i : Nat} {l : Lane} (h : s.Inv) (hl : s.lanes[i]? = some l)
    (hw : l.writeReady = true) : s.writeTarget i l + 8 ≤ Space.size s.cfg .node := by
  rw [Lane.writeReady_iff] at hw
  obtain ⟨hc, -⟩ := h.of_write hl hw
  have hle := h.writeTarget_add_le hl hw
  have hpow : 2 ^ Nat.log2 s.leaves ≤ 2 ^ s.cfg.maxLog2Leaves := Nat.pow_le_pow_right (by omega) hc.capacity
  rw [hc.leaves] at hpow
  simp only [Space.size]
  omega

theorem State.Inv.of_read {s : State} {i : Nat} {l : Lane} (h : s.Inv) (hl : s.lanes[i]? = some l)
    (hr : l.readReady = true) :
    s.Commands i l ∧ pairIndex s.cfg.lanes i l.prdK.toNat < nodeCount s.leaves s.curLevel.toNat := by
  obtain ⟨hv, -, hk⟩ := Lane.readReady_iff.mp hr
  have hc := h.commands hl hv
  exact ⟨hc, (hc.lt_cmdCount_iff _).mp hk⟩

/-- PRD_READ reads words that exist (R288). -/
theorem State.Inv.read_in_range {s : State} {i : Nat} {l : Lane} (h : s.Inv) (hl : s.lanes[i]? = some l)
    (hr : l.readReady = true) : (s.readSource i l).2 + 16 ≤ Space.size s.cfg (s.readSource i l).1 := by
  obtain ⟨hc, hj⟩ := h.of_read hl hr
  rw [← hc.leaves] at hj
  rw [State.readSource, hc.level, ← hc.leaves]
  exact pairSrc_add_le hc.level_lt hc.capacity hj

/-! ### A lane's turn -/

/-- What lane `k` becomes at a turn of its instruction `i`: the step's effect where its condition holds, else the lane as
it is. -/
def State.laneAfter (s : State) (i : Instr) (k : Nat) (l : Lane) : Lane :=
  match i with
  | .prdRead _ =>
    if l.readReady then
      l.pairRead (Memory.readWords (s.memOf (s.readSource k l).1) (s.readSource k l).2 16)
    else l
  | .prdPad _ => if l.padReady then l.padded else l
  | .prdSend _ => if l.sendReady s.cfg then l.blockSent else l
  | .engRecv _ => if l.engRecvReady then l.blockTaken (l.req.headD l.buf.eb) l.req.tail else l
  | .engCompress _ => if l.compressReady then l.compressed else l
  | .engSend _ => if l.engSendReady s.cfg then l.digestSent else l
  | .cnsRecv _ => if l.recvReady then l.digestTaken (l.rsp.headD l.buf.db) l.rsp.tail else l
  | .cnsWrite _ => if l.writeReady then l.nodeWritten else l
  | .cnsDone _ => if l.doneReady then l.committed else l
  | _ => l

/-- The words that a turn of instruction `i` stores in NodeMem: DB at a CNS_WRITE, else none (R242). -/
def Lane.stored (l : Lane) (i : Instr) : List Word :=
  match i with
  | .cnsWrite _ => if l.writeReady then l.buf.db.toList else []
  | _ => []

/-- The state after a turn of lane `k`. -/
def State.turned (s : State) (i : Instr) (k : Nat) (l : Lane) : State :=
  (s.withMem .node (Memory.writeWords s.nodeMem (s.writeTarget k l) (l.stored i))).setLane k (s.laneAfter i k l)

theorem Lane.stored_cases (l : Lane) (i : Instr) :
    l.stored i = [] ∨ (∃ lane, i = .cnsWrite lane) ∧ l.cnsPhase = .write ∧ (l.stored i).length = 8 := by
  cases i with
  | cnsWrite lane =>
    cases hw : l.writeReady with
    | false => exact .inl (by simp [Lane.stored, hw])
    | true => exact .inr ⟨⟨lane, rfl⟩, Lane.writeReady_iff.mp hw, by simp [Lane.stored, hw]⟩
  | _ => exact .inl rfl

theorem State.turned_of_stored_nil {s : State} {i : Instr} {k : Nat} {l : Lane} (h : l.stored i = []) :
    s.turned i k l = s.setLane k (s.laneAfter i k l) := by
  rw [State.turned, h]
  rfl

theorem State.setLane_self {s : State} {k : Nat} {l : Lane} (hl : s.lanes[k]? = some l) : s.setLane k l = s := by
  obtain ⟨hk, rfl⟩ := List.getElem?_eq_some_iff.mp hl
  rw [State.setLane, List.set_getElem_self]

/-- A lane step whose effect is a change of its lane alone. -/
theorem laneStep_eq_next {lane : BitVec 8} {s : State} {l m : Lane} {ready : Lane → Bool} {act : Lane → Result State}
    (hl : s.lanes[lane.toNat]? = some l) (hact : ready l = true → act l = .next (s.setLane lane.toNat m)) :
    laneStep lane s ready act = .next (s.setLane lane.toNat (if ready l then m else l)) := by
  cases hr : ready l with
  | false => simp [laneStep, hl, hr, State.setLane_self hl]
  | true => simpa [laneStep, hl, hr] using hact hr

/-- A turn of a lane of the build, within the memories, is `State.turned`. -/
theorem exec_eq_turned {i : Instr} {lane : BitVec 8} {s : State} {l : Lane} (hi : i.lane? = some lane)
    (hl : s.lanes[lane.toNat]? = some l)
    (hread : i = .prdRead lane → l.readReady = true →
      (s.readSource lane.toNat l).2 + 16 ≤ Space.size s.cfg (s.readSource lane.toNat l).1)
    (hwrite : i = .cnsWrite lane → l.writeReady = true → s.writeTarget lane.toNat l + 8 ≤ Space.size s.cfg .node) :
    exec i s = .next (s.turned i lane.toNat l) := by
  cases i with
  | prdRead j =>
    cases hi
    refine laneStep_eq_next hl fun hr => ?_
    rw [State.memRead_eq_some.mpr ⟨hread rfl hr, rfl⟩]
  | prdPad j | prdSend j | engCompress j | engSend j | cnsDone j => cases hi; exact laneStep_eq_next hl fun _ => rfl
  | engRecv j =>
    cases hi
    refine laneStep_eq_next hl fun hr => ?_
    obtain ⟨b, rest, hreq⟩ := List.exists_cons_of_ne_nil (Lane.engRecvReady_iff.mp hr).2
    rw [chanRecv_eq_some.mpr hreq, hreq]
    rfl
  | cnsRecv j =>
    cases hi
    refine laneStep_eq_next hl fun hr => ?_
    obtain ⟨-, -, -, hne⟩ := Lane.recvReady_iff.mp hr
    obtain ⟨d, rest, hrsp⟩ := List.exists_cons_of_ne_nil hne
    rw [chanRecv_eq_some.mpr hrsp, hrsp]
    rfl
  | cnsWrite j =>
    cases hi
    rcases execCnsWrite_cases lane s with ⟨hnone, -⟩ | ⟨m, hm, hr, heq⟩ | ⟨m, hm, hr, ⟨-, heq⟩ | ⟨hout, -⟩⟩
    · cases hnone.symm.trans hl
    all_goals obtain rfl : m = l := Option.some.inj (hm.symm.trans hl)
    · refine heq.trans ?_
      rw [State.turned_of_stored_nil (by simp [Lane.stored, hr])]
      simp [State.laneAfter, hr, State.setLane_self hl]
    · refine heq.trans ?_
      simp [State.turned, State.laneAfter, Lane.stored, hr]
    · exact absurd (hwrite rfl hr) hout
  | _ => cases hi

/-- Every lane step that answers a next state is a turn of its lane. -/
theorem exec_next_turned {i : Instr} {lane : BitVec 8} {s t : State} (hi : i.lane? = some lane)
    (h : exec i s = .next t) : ∃ l, s.lanes[lane.toNat]? = some l ∧ t = s.turned i lane.toNat l := by
  cases hl : s.lanes[lane.toNat]? with
  | none => cases (exec_of_no_such_lane hi hl).symm.trans h
  | some l =>
    refine ⟨l, rfl, ?_⟩
    have hturn := exec_eq_turned hi hl
      (fun hrd hr => by
        by_contra hout
        rw [hrd, exec_prdRead_out_of_range hl hr (Nat.lt_of_not_le hout)] at h
        cases h)
      (fun hwr hr => by
        by_contra hout
        rw [hwr, exec_cnsWrite_out_of_range hl hr (Nat.lt_of_not_le hout)] at h
        cases h)
    cases h.symm.trans hturn
    rfl

/-- In a state that keeps the invariant every turn of a lane of the build is within the memories (R288). -/
theorem State.Inv.exec_eq_turned {i : Instr} {lane : BitVec 8} {s : State} {l : Lane} (h : s.Inv)
    (hi : i.lane? = some lane) (hl : s.lanes[lane.toNat]? = some l) : exec i s = .next (s.turned i lane.toNat l) :=
  Machine.exec_eq_turned hi hl (fun _ => h.read_in_range hl) fun _ => h.write_in_range hl

/-- The lane of a lane step of the build. -/
theorem State.Inv.exists_lane {i : Instr} {lane : BitVec 8} {s : State} (h : s.Inv) (hi : i.lane? = some lane)
    (hwf : i.wf s.cfg = true) : ∃ l, s.lanes[lane.toNat]? = some l := by
  obtain ⟨-, ⟨hlen, -⟩, -⟩ := h
  simp only [Instr.wf, hi, decide_eq_true_eq] at hwf
  exact ⟨_, List.getElem?_eq_getElem (hlen ▸ hwf)⟩

/-! ### The fields of the state after a turn -/

section
variable (s : State) (i : Instr) (k : Nat) (l : Lane)

@[simp] theorem State.turned_cfg : (s.turned i k l).cfg = s.cfg := rfl
@[simp] theorem State.turned_leafCnt : (s.turned i k l).leafCnt = s.leafCnt := rfl
@[simp] theorem State.turned_leafMem : (s.turned i k l).leafMem = s.leafMem := rfl
@[simp] theorem State.turned_nodeMem :
    (s.turned i k l).nodeMem = Memory.writeWords s.nodeMem (s.writeTarget k l) (l.stored i) := rfl
@[simp] theorem State.turned_lanes : (s.turned i k l).lanes = s.lanes.set k (s.laneAfter i k l) := rfl
end

/-! ### What each instruction leaves as it was -/

/-- The frame of every instruction: LeafMem, the build and the model's own fields, with the returned word but for a read and
NodeMem but for CNS_WRITE (R30, R82, R85). -/
theorem exec_frame {i : Instr} {s t : State} (h : exec i s = .next t) :
    t.leafMem = s.leafMem ∧ t.cfg = s.cfg ∧ ((∀ lane, i ≠ .cnsWrite lane) → t.nodeMem = s.nodeMem) ∧
    t.inputs = s.inputs ∧ t.history = s.history ∧ t.xferData = s.xferData ∧ t.turn = s.turn ∧
    (i.kind ≠ .hostRd → t.rdata = s.rdata) := by
  rcases Instr.agent_cases i with hrd | hwr | rfl | rfl | rfl | rfl | ⟨lane, hlane⟩
  · obtain ⟨idx, heq⟩ := exec_of_hostRd hrd s
    cases heq.symm.trans h
    exact ⟨rfl, rfl, fun _ => rfl, rfl, rfl, rfl, rfl, fun hne => absurd hrd hne⟩
  · obtain ⟨idx, data, heq⟩ := exec_of_hostWr hwr s
    cases heq.symm.trans h
    rcases State.regWrite_cases s idx data with
      ⟨-, -, -, heq⟩ | ⟨-, -, heq⟩ | ⟨-, -, heq⟩ | ⟨-, -, heq⟩ | heq <;> rw [heq] <;>
      exact ⟨rfl, rfl, fun _ => rfl, rfl, rfl, rfl, rfl, fun _ => rfl⟩
  · cases h
    exact ⟨rfl, rfl, fun _ => rfl, rfl, rfl, rfl, rfl, fun _ => rfl⟩
  · rcases execOrcCheck_cases s with heq | ⟨-, -, heq⟩ | ⟨-, -, heq⟩ <;> cases heq.symm.trans h <;>
      exact ⟨rfl, rfl, fun _ => rfl, rfl, rfl, rfl, rfl, fun _ => rfl⟩
  · rcases execOrcDispatch_cases s with heq | ⟨-, -, heq⟩ <;> cases heq.symm.trans h <;>
      exact ⟨rfl, rfl, fun _ => rfl, rfl, rfl, rfl, rfl, fun _ => rfl⟩
  · rcases execOrcJoin_cases s with heq | ⟨-, -, heq⟩ <;> cases heq.symm.trans h <;>
      exact ⟨rfl, rfl, fun _ => rfl, rfl, rfl, rfl, rfl, fun _ => rfl⟩
  · obtain ⟨l, -, rfl⟩ := exec_next_turned hlane h
    refine ⟨rfl, rfl, fun hne => ?_, rfl, rfl, rfl, rfl, fun _ => rfl⟩
    rcases l.stored_cases i with hnil | ⟨⟨j, hj⟩, -⟩
    · rw [State.turned_nodeMem, hnil]
      rfl
    · exact absurd hj (hne j)

/-- Settles O51: the frame of each agent's step, by the operation that it is. -/
theorem onlyConsumersWriteMemory : Obligations.OnlyConsumersWriteMemory :=
  fun _ _ _ => exec_frame

/-! ### Words above the tree (R224) -/

theorem Memory.read_writeWords_outside {ws : List Word} {a b : Nat} {m : Memory} (hm : Memory.wf m = true)
    (hb : b < a ∨ a + ws.length ≤ b) : Memory.read (Memory.writeWords m a ws) b = Memory.read m b := by
  rw [Memory.read_writeWords hm]
  rcases hb with hb | hb
  · rw [if_neg (by omega)]
  · rw [if_pos (by omega), List.getElem?_eq_none (by omega), Option.getD_none]

theorem Memory.read_writeWords_inside {ws : List Word} {a b : Nat} {m : Memory} (hm : Memory.wf m = true)
    (hb : a ≤ b ∧ b < a + ws.length) : Memory.read (Memory.writeWords m a ws) b = ws[b - a] := by
  rw [Memory.read_writeWords hm, if_pos hb.1, List.getElem?_eq_getElem (by omega), Option.getD_some]

/-- A turn of a lane leaves a word of NodeMem alone that is not one of the eight of the lane's next Node. -/
theorem State.Inv.read_turned_nodeMem {s : State} {i : Instr} {k : Nat} {l : Lane} {b : Nat} (h : s.Inv)
    (hb : l.cnsPhase = .write → b < s.writeTarget k l ∨ s.writeTarget k l + 8 ≤ b) :
    Memory.read (s.turned i k l).nodeMem b = Memory.read s.nodeMem b := by
  obtain ⟨-, -, ⟨-, hwf, -⟩, -⟩ := h
  rw [State.turned_nodeMem]
  rcases l.stored_cases i with hnil | ⟨-, hw, hlen⟩
  · rw [hnil]
    rfl
  · exact Memory.read_writeWords_outside hwf (hlen ▸ hb hw)

/-- Settles O52: only CNS_WRITE writes NodeMem, and its Node lies in the tree's region. -/
theorem wordsAboveTheTreeAreUntouched : Obligations.WordsAboveTheTreeAreUntouched := by
  intro i s t hinv _ h a ha
  by_cases hw : ∃ lane, i = .cnsWrite lane
  · obtain ⟨lane, rfl⟩ := hw
    obtain ⟨l, hl, rfl⟩ := exec_next_turned rfl h
    refine hinv.read_turned_nodeMem fun hwrite => .inr ?_
    exact Nat.le_trans (hinv.writeTarget_add_le hl hwrite) ha
  · obtain ⟨-, -, hnode, -⟩ := exec_frame h
    rw [hnode fun lane heq => hw ⟨lane, heq⟩]

/-! ### Turns of two lanes (R102, R106, R251) -/

/-- The words a lane reads are not among those another lane writes at the same level: a level's sources lie above all its
Nodes (R181, R184). -/
theorem State.Inv.readWords_turned {s : State} {i : Instr} {a b : Nat} {l m : Lane} (h : s.Inv)
    (hl : s.lanes[a]? = some l) (hm : s.lanes[b]? = some m) (hr : m.readReady = true) :
    Memory.readWords ((s.turned i a l).memOf (s.readSource b m).1) (s.readSource b m).2 16 =
      Memory.readWords (s.memOf (s.readSource b m).1) (s.readSource b m).2 16 := by
  obtain ⟨hcm, -⟩ := h.of_read hm hr
  rw [State.readSource, hcm.level]
  cases hlevel : s.curLevel.toNat with
  | zero => rfl
  | succ q =>
    apply Vector.ext
    intro w hw
    rw [Memory.readWords_getElem hw, Memory.readWords_getElem hw]
    refine h.read_turned_nodeMem fun hwrite => .inr ?_
    obtain ⟨hcl, hj⟩ := h.of_write hl hwrite
    have hlt := hcl.level_lt
    rw [hlevel] at hj hlt
    rw [hcl.writeTarget_eq, hlevel, ← hcl.leaves]
    rw [← hcl.leaves] at hj
    have := nodeAddr_add_le_levelOff hlt hj
    simp only [pairSrc]
    omega

/-- A lane's turn does not see another lane's. -/
theorem State.Inv.laneAfter_turned {s : State} {i j : Instr} {a b : Nat} {l m : Lane} (h : s.Inv)
    (hl : s.lanes[a]? = some l) (hm : s.lanes[b]? = some m) : (s.turned i a l).laneAfter j b m = s.laneAfter j b m := by
  cases j with
  | prdRead lane =>
    cases hr : m.readReady with
    | false => simp [State.laneAfter, hr]
    | true =>
      have hwords := h.readWords_turned (i := i) hl hm hr
      have hsrc : (s.turned i a l).readSource b m = s.readSource b m := rfl
      simp only [State.laneAfter, hsrc, hwords]
  | _ => rfl

/-- Stores to different words commute. -/
theorem Memory.writeWords_comm {a b : Nat} {xs ys : List Word} {m : Memory} (hm : Memory.wf m = true)
    (hd : a + xs.length ≤ b ∨ b + ys.length ≤ a) :
    Memory.writeWords (Memory.writeWords m a xs) b ys = Memory.writeWords (Memory.writeWords m b ys) a xs := by
  have hx := Memory.wf_writeWords (a := a) (ws := xs) hm
  have hy := Memory.wf_writeWords (a := b) (ws := ys) hm
  refine Memory.ext_of_wf (Memory.wf_writeWords hx) (Memory.wf_writeWords hy) fun k => ?_
  by_cases hkx : a ≤ k ∧ k < a + xs.length
  · have hky : k < b ∨ b + ys.length ≤ k := by omega
    rw [Memory.read_writeWords_outside hx hky, Memory.read_writeWords_inside hm hkx, Memory.read_writeWords_inside hy hkx]
  · have hkx' : k < a ∨ a + xs.length ≤ k := by omega
    rw [Memory.read_writeWords_outside hy hkx']
    by_cases hky : b ≤ k ∧ k < b + ys.length
    · rw [Memory.read_writeWords_inside hx hky, Memory.read_writeWords_inside hm hky]
    · have hky' : k < b ∨ b + ys.length ≤ k := by omega
      rw [Memory.read_writeWords_outside hx hky', Memory.read_writeWords_outside hm hky',
        Memory.read_writeWords_outside hm hkx']

/-- What two lanes store commutes: at one level they write different Nodes (R187, R188 b). -/
theorem State.Inv.stores_comm {s : State} {i j : Instr} {a b : Nat} {l m : Lane} (h : s.Inv)
    (hl : s.lanes[a]? = some l) (hm : s.lanes[b]? = some m) (hab : a ≠ b) :
    Memory.writeWords (Memory.writeWords s.nodeMem (s.writeTarget a l) (l.stored i)) (s.writeTarget b m) (m.stored j) =
      Memory.writeWords (Memory.writeWords s.nodeMem (s.writeTarget b m) (m.stored j)) (s.writeTarget a l)
        (l.stored i) := by
  have hof := fun {k x} => h.of_write (i := k) (l := x)
  obtain ⟨-, -, ⟨-, hwf, -⟩, -⟩ := h
  rcases l.stored_cases i with hi | ⟨-, hwl, hil⟩
  · rw [hi]
    rfl
  rcases m.stored_cases j with hj | ⟨-, hwm, hjm⟩
  · rw [hj]
    rfl
  obtain ⟨hcl, -⟩ := hof hl hwl
  obtain ⟨hcm, -⟩ := hof hm hwm
  have hpair : pairIndex s.cfg.lanes a l.cnsK.toNat ≠ pairIndex s.cfg.lanes b m.cnsK.toNat := fun heq => hab <| by
    rw [← pairIndex_mod (k := l.cnsK.toNat) hcl.lane_lt, heq, pairIndex_mod hcm.lane_lt]
  apply Memory.writeWords_comm hwf
  rw [hil, hjm, hcl.writeTarget_eq, hcm.writeTarget_eq, nodeAddr_eq, nodeAddr_eq]
  omega

/-- Two turns one after the other, as one change of the state. -/
theorem State.Inv.turned_turned {s : State} {i j : Instr} {a b : Nat} {l m : Lane} (h : s.Inv)
    (hl : s.lanes[a]? = some l) (hm : s.lanes[b]? = some m) :
    (s.turned i a l).turned j b m =
      { s with
        lanes := (s.lanes.set a (s.laneAfter i a l)).set b (s.laneAfter j b m)
        nodeMem := Memory.writeWords (Memory.writeWords s.nodeMem (s.writeTarget a l) (l.stored i)) (s.writeTarget b m)
          (m.stored j) } := by
  rw [State.turned, h.laneAfter_turned hl hm]
  rfl

/-- Turns of two different lanes reach the same state in either order. -/
theorem State.Inv.turned_comm {s : State} {i j : Instr} {a b : Nat} {l m : Lane} (h : s.Inv)
    (hl : s.lanes[a]? = some l) (hm : s.lanes[b]? = some m) (hab : a ≠ b) :
    (s.turned i a l).turned j b m = (s.turned j b m).turned i a l := by
  rw [h.turned_turned hl hm, h.turned_turned hm hl, h.stores_comm hl hm hab, List.set_comm _ _ hab]

/-- Settles O40: each turn is `State.turned` in both orders, and these commute. -/
theorem stepsOfDifferentLanesCommute : Obligations.StepsOfDifferentLanesCommute := by
  intro s i j a b hinv hi hj hab hiwf hjwf
  obtain ⟨l, hl⟩ := hinv.exists_lane hi hiwf
  obtain ⟨m, hm⟩ := hinv.exists_lane hj hjwf
  have hne : a.toNat ≠ b.toNat := fun h => hab (BitVec.eq_of_toNat_eq h)
  have hit := hinv.exec_eq_turned hi hl
  have hjt := hinv.exec_eq_turned hj hm
  have hij := (exec_keeps_inv hinv hit).exec_eq_turned hj ((List.getElem?_set_ne hne).trans hm)
  have hji := (exec_keeps_inv hinv hjt).exec_eq_turned hi ((List.getElem?_set_ne hne.symm).trans hl)
  exact ⟨_, _, _, hit, hij, hjt, hinv.turned_comm hl hm hne ▸ hji⟩

end Sys2Proof.Machine
end

section
/-! The Host's byte packing (spec/20_memory.md R88, R89): a word and its four bytes, then a Node and its 32: O10. -/

namespace Sys2Proof.Machine

/-! ### A word and its bytes -/

theorem toNat_append_eq_add {m n : Nat} (x : BitVec m) (y : BitVec n) :
    (x ++ y).toNat = x.toNat * 2 ^ n + y.toNat := by
  rw [BitVec.toNat_append, ← Nat.shiftLeft_add_eq_or_of_lt y.isLt, Nat.shiftLeft_eq]

theorem packWord_toNat (b0 b1 b2 b3 : BitVec 8) :
    (packWord b0 b1 b2 b3).toNat =
      b0.toNat * 2 ^ 24 + b1.toNat * 2 ^ 16 + b2.toNat * 2 ^ 8 + b3.toNat := by
  simp only [packWord, toNat_append_eq_add]
  omega

theorem byteOf_toNat (x : Word) (j : Nat) : (byteOf x j).toNat = x.toNat / 2 ^ (24 - 8 * j) % 2 ^ 8 := by
  rw [byteOf, BitVec.extractLsb'_toNat, Nat.shiftRight_eq_div_pow]

/-- Byte `k` of a packed word is the `k`-th byte packed (R88, R89). -/
theorem byteOf_packWord (b : Nat → BitVec 8) {k : Nat} (hk : k < 4) :
    byteOf (packWord (b 0) (b 1) (b 2) (b 3)) k = b k := by
  apply BitVec.eq_of_toNat_eq
  rw [byteOf_toNat, packWord_toNat]
  have h0 := (b 0).isLt
  have h1 := (b 1).isLt
  have h2 := (b 2).isLt
  have h3 := (b 3).isLt
  interval_cases k <;> omega

/-- The bytes of a word pack into it again. -/
theorem packWord_byteOf (x : Word) : packWord (byteOf x 0) (byteOf x 1) (byteOf x 2) (byteOf x 3) = x := by
  apply BitVec.eq_of_toNat_eq
  have hx := x.isLt
  rw [packWord_toNat, byteOf_toNat, byteOf_toNat, byteOf_toNat, byteOf_toNat]
  omega

/-! ### A Node and its bytes -/

theorem packNode_getElem (b : Vector (BitVec 8) 32) {w : Nat} (h : w < 8) :
    (packNode b)[w] = packWord b[4 * w] b[4 * w + 1] b[4 * w + 2] b[4 * w + 3] :=
  Vector.getElem_ofFn h

theorem nodeBytes_getElem (n : Node) {i : Nat} (h : i < 32) : (nodeBytes n)[i] = byteOf n[i / 4] (i % 4) :=
  Vector.getElem_ofFn h

theorem nodeBytes_packNode (b : Vector (BitVec 8) 32) : nodeBytes (packNode b) = b := by
  ext1 i hi
  rw [nodeBytes_getElem _ hi, packNode_getElem _ (by omega)]
  have hbyte := byteOf_packWord (fun k => b.getD (4 * (i / 4) + k) 0#8) (Nat.mod_lt i (by omega : 0 < 4))
  simpa [Vector.getD, Nat.div_add_mod, hi, show 4 * (i / 4) + 3 < 32 by omega, show 4 * (i / 4) + 2 < 32 by omega,
    show 4 * (i / 4) + 1 < 32 by omega, show 4 * (i / 4) < 32 by omega] using hbyte

theorem packNode_nodeBytes (n : Node) : packNode (nodeBytes n) = n := by
  ext1 w hw
  have hdiv (k : Nat) (hk : k < 4) : (4 * w + k) / 4 = w := by omega
  have hmod (k : Nat) (hk : k < 4) : (4 * w + k) % 4 = k := by omega
  have hbyte (k : Nat) (hk : k < 4) : (nodeBytes n)[4 * w + k] = byteOf n[w] k := by
    simp only [nodeBytes_getElem, hdiv k hk, hmod k hk]
  have hfirst : (nodeBytes n)[4 * w] = byteOf n[w] 0 := hbyte 0 (by omega)
  rw [packNode_getElem _ hw, hfirst, hbyte 1 (by omega), hbyte 2 (by omega), hbyte 3 (by omega), packWord_byteOf]

/-- Settles O10: a Node is packed word by word, and a word from the place values of its four bytes. -/
theorem bytePackingInverts : Obligations.BytePackingInverts := by
  refine ⟨nodeBytes_packNode, packNode_nodeBytes, fun b w h => ?_⟩
  rw [packNode_getElem b h, packWord_toNat]

end Sys2Proof.Machine
end

section
/-! Which Nodes a run has written, in every state of it: the run's written offsets are those Nodes' addresses, each once.
From it O55 and O56. -/

namespace Sys2Proof.Machine

/-! ### The Nodes written so far -/

/-- Pair `j` of the current level has been written by the lane that has it (R187). -/
def State.pairWritten (s : State) (j : Nat) : Prop :=
  ∃ l, s.lanes[j % s.cfg.lanes]? = some l ∧ j / s.cfg.lanes < l.cnsK.toNat

/-- Node `j` of level `r` has been written in the run so far: every Node of the levels below the current one, and those of
the current one whose lanes have counted them. -/
def State.nodeWritten (s : State) (r j : Nat) : Prop :=
  s.fsm = .done ∨
    s.fsm.producing = true ∧
      (r < s.curLevel.toNat ∨ r = s.curLevel.toNat ∧ s.dispatched = true ∧ s.pairWritten j)

theorem State.nodeWritten_of_producing {s : State} (hp : s.fsm.producing = true) (r j : Nat) :
    s.nodeWritten r j ↔
      r < s.curLevel.toNat ∨ r = s.curLevel.toNat ∧ s.dispatched = true ∧ s.pairWritten j := by
  have hne : s.fsm ≠ .done := fun hf => by rw [hf] at hp; cases hp
  simp [State.nodeWritten, hp, hne]

/-- A lane's pair is written exactly if the lane has counted it. -/
theorem State.pairWritten_pairIndex {s : State} {i k : Nat} {l : Lane} (hi : i < s.cfg.lanes)
    (hl : s.lanes[i]? = some l) : s.pairWritten (pairIndex s.cfg.lanes i k) ↔ k < l.cnsK.toNat := by
  rw [State.pairWritten, pairIndex_mod hi, pairIndex_div hi, hl]
  simp

/-- Right after a dispatch no pair of the level is written (R206). -/
theorem State.not_pairWritten_allCommanded (s : State) (j : Nat) : ¬ s.allCommanded.pairWritten j := by
  rintro ⟨m, hm, hk⟩
  rw [State.allCommanded, List.getElem?_mapIdx, Option.map_eq_some_iff] at hm
  obtain ⟨l, -, rfl⟩ := hm
  exact Nat.not_lt_zero _ hk

/-- When every lane has committed, every pair of the dispatched level is written (R213). -/
theorem State.Inv.pairWritten_of_done {s : State} {j : Nat} (h : s.Inv) (hdone : ∀ l ∈ s.lanes, l.done = true)
    (hj : j < nodeCount s.leaves s.curLevel.toNat) : s.dispatched = true ∧ s.pairWritten j := by
  have hN : 0 < s.cfg.lanes := by
    obtain ⟨hcfg, -⟩ := h
    simp only [Config.wf, Bool.and_eq_true, decide_eq_true_eq] at hcfg
    omega
  have hlen : j % s.cfg.lanes < s.lanes.length := by
    obtain ⟨-, ⟨hlen, -⟩, -⟩ := h
    rw [hlen]
    exact Nat.mod_lt j hN
  have hl := List.getElem?_eq_getElem hlen
  obtain ⟨hfree, -, -, hcount, -⟩ := h.lane_ok hl
  have hd := hdone _ (List.getElem_mem hlen)
  have hv : s.lanes[j % s.cfg.lanes].cmdValid = true := by
    by_contra hne
    cases hd.symm.trans (hfree (by simpa using hne)).2
  have hc := h.commands hl hv
  refine ⟨hc.dispatched, _, hl, ?_⟩
  rw [hcount hd, hc.lt_cmdCount_iff, pairIndex_mod_div]
  exact hj

/-! ### A lane's turn -/

/-- A turn that stores nothing counts no Node. -/
theorem State.laneAfter_cnsK {s : State} {i : Instr} {k : Nat} {l : Lane} (h : l.stored i = []) :
    (s.laneAfter i k l).cnsK = l.cnsK := by
  cases i with
  | cnsWrite lane =>
    have hr : l.writeReady = false := by
      by_contra hr
      have hlen := congrArg List.length h
      simp [Lane.stored, hr] at hlen
    simp [State.laneAfter, hr]
  | prdRead | prdPad | prdSend | engRecv | engCompress | engSend | cnsRecv | cnsDone =>
    simp only [State.laneAfter]
    split <;> rfl
  | _ => rfl

theorem State.laneAfter_cnsWrite {s : State} {lane : BitVec 8} {k : Nat} {l : Lane} (h : l.cnsPhase = .write) :
    s.laneAfter (.cnsWrite lane) k l = l.nodeWritten := by
  simp [State.laneAfter, Lane.writeReady_iff.mpr h]

theorem State.turned_getElem? {s : State} {i : Instr} {k : Nat} {l : Lane} (hl : s.lanes[k]? = some l) (n : Nat) :
    (s.turned i k l).lanes[n]? = if k = n then some (s.laneAfter i k l) else s.lanes[n]? := by
  rw [State.turned_lanes, List.getElem?_set, if_pos (List.getElem?_eq_some_iff.mp hl).1]

theorem State.pairWritten_turned_of_stored_nil {s : State} {i : Instr} {k : Nat} {l : Lane}
    (hl : s.lanes[k]? = some l) (h : l.stored i = []) (j : Nat) : (s.turned i k l).pairWritten j ↔ s.pairWritten j := by
  unfold State.pairWritten
  rw [State.turned_cfg, State.turned_getElem? hl]
  split
  · rename_i hk
    simp [← hk, hl, State.laneAfter_cnsK h]
  · rfl

/-- A CNS_WRITE writes the lane's next pair, and no other. -/
theorem State.Inv.pairWritten_turned_cnsWrite {s : State} {lane : BitVec 8} {k : Nat} {l : Lane} (h : s.Inv)
    (hl : s.lanes[k]? = some l) (hw : l.cnsPhase = .write) (j : Nat) :
    (s.turned (.cnsWrite lane) k l).pairWritten j ↔
      s.pairWritten j ∨ j = pairIndex s.cfg.lanes k l.cnsK.toNat := by
  obtain ⟨hc, -⟩ := h.of_write hl hw
  obtain ⟨-, hcount⟩ := (h.lane_ok hl).cnsK_lt_of_write hw
  rw [State.pairWritten, State.turned_cfg, State.turned_getElem? hl, State.laneAfter_cnsWrite hw]
  by_cases hk : k = j % s.cfg.lanes
  · have hj : j = pairIndex s.cfg.lanes k l.cnsK.toNat ↔ j / s.cfg.lanes = l.cnsK.toNat := by
      constructor
      · intro heq
        rw [heq, pairIndex_div hc.lane_lt]
      · intro heq
        rw [← heq, hk, pairIndex_mod_div]
    rw [if_pos hk, hj, State.pairWritten, ← hk, hl]
    simp only [Option.some.injEq, exists_eq_left', Lane.nodeWritten_cnsK, toNat_add_one_of_lt hcount]
    omega
  · have hj : j ≠ pairIndex s.cfg.lanes k l.cnsK.toNat := fun heq => hk (by rw [heq, pairIndex_mod hc.lane_lt])
    rw [if_neg hk, or_iff_left hj, State.pairWritten]

/-! ### The offset a step writes -/

/-- An instruction that writes no offset stores nothing; one that writes an offset is the CNS_WRITE of a lane that holds a
digest. -/
theorem writeOffset?_cases (i : Instr) (s : State) :
    (writeOffset? i s = none ∧
      ∀ lane l, i.lane? = some lane → s.lanes[lane.toNat]? = some l → l.stored i = []) ∨
    ∃ lane l, i = .cnsWrite lane ∧ s.lanes[lane.toNat]? = some l ∧ l.cnsPhase = .write ∧
      writeOffset? i s = some (s.writeTarget lane.toNat l) := by
  cases i with
  | cnsWrite lane =>
    cases hl : s.lanes[lane.toNat]? with
    | none =>
      refine .inl ⟨by simp [writeOffset?, hl], ?_⟩
      rintro _ m ⟨⟩ hm
      cases hl.symm.trans hm
    | some l =>
      cases hr : l.writeReady with
      | false =>
        refine .inl ⟨by simp [writeOffset?, hl, hr], ?_⟩
        rintro _ m ⟨⟩ hm
        cases hl.symm.trans hm
        simp [Lane.stored, hr]
      | true => exact .inr ⟨lane, l, rfl, hl, Lane.writeReady_iff.mp hr, by simp [writeOffset?, hl, hr]⟩
  | _ => exact .inl ⟨rfl, fun _ _ _ _ => rfl⟩

/-! ### DONE and the steps of a run -/

/-- The write accesses that are no START (R267). -/
theorem exec_of_hostWr_not_start {i : Instr} (h : i.kind = .hostWr) (hs : i.isStart = false) (s : State) :
    ∃ idx data, exec i s = hostWrite idx data s ∧ ¬ (idx = 0#4 ∧ data.getLsbD 0 = true) := by
  cases i with
  | wrCtrl start =>
    refine ⟨0#4, start.setWidth 32, rfl, fun ⟨_, hbit⟩ => ?_⟩
    obtain rfl | rfl := BitVec.eq_zero_or_eq_one start
    · cases hbit
    · cases hs
  | hostWr idx data => exact ⟨idx, data, rfl, by simpa [Instr.isStart] using hs⟩
  | wrStatus | wrLeafCnt | wrInWords | wrOutWords | wrConfig => exact ⟨_, _, rfl, fun hne => by cases hne.1⟩
  | wrRsvd6 | wrRsvd7 | wrRsvd8 | wrRsvd9 | wrRsvd10 | wrRsvd11 | wrRsvd12 | wrRsvd13 | wrRsvd14 | wrRsvd15 =>
    exact ⟨_, _, rfl, fun hne => by cases hne.1⟩
  | _ => cases h

/-- A register write does nothing while BUSY (R265, R267). -/
theorem State.regWrite_of_busy {s : State} (hb : s.busy = true) (idx : BitVec 4) (data : Word) :
    s.regWrite idx data = s := by
  rcases State.regWrite_cases s idx data with ⟨-, -, hnb, -⟩ | ⟨-, hnb, -⟩ | ⟨-, hnb, -⟩ | ⟨-, hnb, -⟩ | heq
  · cases hb.symm.trans hnb
  · cases hb.symm.trans hnb
  · cases hb.symm.trans hnb
  · cases hb.symm.trans hnb
  · exact heq

/-- Only START and RESET leave DONE (R201, R266). -/
theorem exec_keeps_done {i : Instr} {s t : State} (hs : i.isStart = false) (hr : i ≠ .reset) (hf : s.fsm = .done)
    (h : exec i s = .next t) : t.fsm = .done := by
  have hp : s.fsm.producing = false := by rw [hf]; rfl
  rcases Instr.agent_cases i with hrd | hwr | rfl | rfl | rfl | rfl | ⟨lane, hlane⟩
  · obtain ⟨idx, heq⟩ := exec_of_hostRd hrd s
    cases heq.symm.trans h
    exact hf
  · obtain ⟨idx, data, heq, hnot⟩ := exec_of_hostWr_not_start hwr hs s
    cases heq.symm.trans h
    rcases State.regWrite_cases s idx data with
      ⟨hidx, hbit, -⟩ | ⟨-, -, heq⟩ | ⟨-, -, heq⟩ | ⟨-, -, heq⟩ | heq
    · exact absurd ⟨hidx, hbit⟩ hnot
    all_goals rw [heq]; exact hf
  · exact absurd rfl hr
  · rcases execOrcCheck_cases s with heq | ⟨hleaf, -⟩ | ⟨hleaf, -⟩
    · cases heq.symm.trans h
      exact hf
    all_goals cases hf.symm.trans hleaf
  · rcases execOrcDispatch_cases s with heq | ⟨hprod, -⟩
    · cases heq.symm.trans h
      exact hf
    · cases hp.symm.trans hprod
  · rcases execOrcJoin_cases s with heq | ⟨hprod, -⟩
    · cases heq.symm.trans h
      exact hf
    · cases hp.symm.trans hprod
  · obtain ⟨l, -, rfl⟩ := exec_next_turned hlane h
    exact hf

/-! ### The run's record of written offsets -/

/-- A state of a run over `2^K` leaves in which the offsets `ws` have been written: the run is at DONE or still has the
configuration that passed the check, and `ws` lists the address of every Node written so far once. -/
structure RunRecord (K : Nat) (ws : List Nat) (s : State) : Prop where
  inv : s.Inv
  phase : s.fsm = .done ∨ s.busy = true ∧ s.leaves = 2 ^ K ∧ s.check = .none
  nodup : ws.Nodup
  mem_iff : ∀ a, a ∈ ws ↔ ∃ r j, r < K ∧ j < nodeCount (2 ^ K) r ∧ s.nodeWritten r j ∧ a = nodeAddr (2 ^ K) r j

/-- At START nothing is written. -/
theorem RunRecord.start {s : State} (hinv : s.Inv) (hf : s.fsm = .leafLevel) (hc : s.check = .none) :
    RunRecord (Nat.log2 s.leaves) [] s where
  inv := hinv
  phase := .inr ⟨by rw [State.busy, hf]; rfl, (two_pow_log2_leaves_of_check hc).symm, hc⟩
  nodup := List.nodup_nil
  mem_iff a := by simp [State.nodeWritten, hf, Fsm.producing]

/-- The phase survives a step that keeps the registers and the build and stays BUSY or ends at DONE. -/
theorem RunRecord.keep {K : Nat} {ws : List Nat} {s t : State} (h : RunRecord K ws s) (hinv : t.Inv)
    (hphase : t.fsm = .done ∨ t.busy = true ∧ t.leaves = 2 ^ K ∧ t.check = .none)
    (hw : ∀ r j, r < K → j < nodeCount (2 ^ K) r → (t.nodeWritten r j ↔ s.nodeWritten r j)) : RunRecord K ws t where
  inv := hinv
  phase := hphase
  nodup := h.nodup
  mem_iff a := by
    rw [h.mem_iff]
    exact exists₂_congr fun r j => and_congr_right fun hr => and_congr_right fun hj => by rw [hw r j hr hj]

/-- While levels are produced the run still has its configuration. -/
theorem RunRecord.of_producing {K : Nat} {ws : List Nat} {s : State} (h : RunRecord K ws s)
    (hp : s.fsm.producing = true) : s.busy = true ∧ s.leaves = 2 ^ K ∧ s.check = .none :=
  h.phase.resolve_left fun hf => by rw [hf] at hp; cases hp

/-- A CNS_WRITE writes the Node of the lane's next pair, and no other. -/
theorem State.Inv.nodeWritten_turned_cnsWrite {s : State} {lane : BitVec 8} {k : Nat} {l : Lane} (h : s.Inv)
    (hl : s.lanes[k]? = some l) (hw : l.cnsPhase = .write) (r j : Nat) :
    (s.turned (.cnsWrite lane) k l).nodeWritten r j ↔
      s.nodeWritten r j ∨ r = s.curLevel.toNat ∧ j = pairIndex s.cfg.lanes k l.cnsK.toNat := by
  obtain ⟨hc, -⟩ := h.of_write hl hw
  have hd : (s.turned (.cnsWrite lane) k l).dispatched = true := hc.dispatched
  have hcur : (s.turned (.cnsWrite lane) k l).curLevel = s.curLevel := rfl
  rw [State.nodeWritten_of_producing hc.producing,
    State.nodeWritten_of_producing (s := s.turned (.cnsWrite lane) k l) hc.producing,
    h.pairWritten_turned_cnsWrite hl hw]
  simp only [hd, hcur, hc.dispatched, true_and, and_or_left, or_assoc]

/-- The Node that a lane holds in DB has not been written. -/
theorem State.Inv.not_nodeWritten_of_write {s : State} {k : Nat} {l : Lane} (h : s.Inv) (hl : s.lanes[k]? = some l)
    (hw : l.cnsPhase = .write) : ¬ s.nodeWritten s.curLevel.toNat (pairIndex s.cfg.lanes k l.cnsK.toNat) := by
  obtain ⟨hc, -⟩ := h.of_write hl hw
  rw [State.nodeWritten_of_producing hc.producing, State.pairWritten_pairIndex hc.lane_lt hl]
  simp

/-- A CNS_WRITE adds the address of one Node, which was not written before. -/
theorem RunRecord.cnsWrite {K : Nat} {ws : List Nat} {s : State} {lane : BitVec 8} {k : Nat} {l : Lane}
    (h : RunRecord K ws s) (hinv : (s.turned (.cnsWrite lane) k l).Inv) (hl : s.lanes[k]? = some l)
    (hw : l.cnsPhase = .write) : RunRecord K (ws ++ [s.writeTarget k l]) (s.turned (.cnsWrite lane) k l) := by
  obtain ⟨hc, hj⟩ := h.inv.of_write hl hw
  obtain ⟨hb, hleaves, hcheck⟩ := h.of_producing hc.producing
  have hr := hc.level_lt
  have htarget := hc.writeTarget_eq
  rw [hleaves] at hj htarget
  rw [hleaves, Nat.log2_two_pow] at hr
  have hwritten := h.inv.nodeWritten_turned_cnsWrite (lane := lane) hl hw
  have hfresh := h.inv.not_nodeWritten_of_write hl hw
  refine ⟨hinv, .inr ⟨hb, hleaves, hcheck⟩, ?_, fun a => ?_⟩
  · rw [← List.concat_eq_append, List.nodup_concat]
    refine ⟨fun hmem => ?_, h.nodup⟩
    obtain ⟨r, j, hr', hj', hold, heq⟩ := (h.mem_iff _).mp hmem
    obtain ⟨rfl, rfl⟩ := nodeAddr_injective hr hr' hj hj' (htarget.symm.trans heq)
    exact hfresh hold
  · rw [List.mem_append, List.mem_singleton, h.mem_iff]
    constructor
    · rintro (⟨r, j, hr', hj', hold, heq⟩ | rfl)
      · exact ⟨r, j, hr', hj', (hwritten r j).mpr (.inl hold), heq⟩
      · exact ⟨_, _, hr, hj, (hwritten _ _).mpr (.inr ⟨rfl, rfl⟩), htarget⟩
    · rintro ⟨r, j, hr', hj', hnew, rfl⟩
      rcases (hwritten r j).mp hnew with hold | ⟨rfl, rfl⟩
      · exact .inl ⟨r, j, hr', hj', hold, rfl⟩
      · exact .inr htarget.symm

/-- A passing check writes no Node. -/
theorem State.nodeWritten_checkPassed {s : State} (hf : s.fsm = .leafLevel) (r j : Nat) :
    s.checkPassed.nodeWritten r j ↔ s.nodeWritten r j := by
  have hp : s.checkPassed.fsm.producing = true := by
    rw [State.checkPassed_fsm]
    split <;> rfl
  rw [State.nodeWritten_of_producing hp]
  simp [State.nodeWritten, hf, Fsm.producing]

/-- A dispatch writes no Node. -/
theorem State.nodeWritten_allCommanded {s : State} (hp : s.fsm.producing = true) (hd : s.dispatched = false)
    (r j : Nat) : s.allCommanded.nodeWritten r j ↔ s.nodeWritten r j := by
  have hcur : s.allCommanded.curLevel = s.curLevel := rfl
  rw [State.nodeWritten_of_producing hp, State.nodeWritten_of_producing (s := s.allCommanded) hp, hcur]
  simp [hd, State.not_pairWritten_allCommanded]

/-- When every lane has committed, the Nodes written are those up to the current level. -/
theorem State.Inv.nodeWritten_of_done {s : State} {r j : Nat} (h : s.Inv) (hp : s.fsm.producing = true)
    (hdone : ∀ l ∈ s.lanes, l.done = true) (hj : j < nodeCount s.leaves r) :
    s.nodeWritten r j ↔ r ≤ s.curLevel.toNat := by
  rw [State.nodeWritten_of_producing hp]
  constructor
  · omega
  · intro hle
    rcases Nat.lt_or_eq_of_le hle with hlt | rfl
    · exact .inl hlt
    · exact .inr ⟨rfl, h.pairWritten_of_done hdone hj⟩

/-- A join writes no Node: the level it enters is the one above those written (R213). -/
theorem State.Inv.nodeWritten_joined {s : State} {r j : Nat} (h : s.Inv) (hp : s.fsm.producing = true)
    (hdone : ∀ l ∈ s.lanes, l.done = true) (hr : r < Nat.log2 s.leaves) (hj : j < nodeCount s.leaves r) :
    s.joined.nodeWritten r j ↔ s.nodeWritten r j := by
  rw [h.nodeWritten_of_done hp hdone hj]
  have hfsm : s.joined.fsm = s.nextLevel.1 := rfl
  have hcur : s.joined.curLevel = s.nextLevel.2 := rfl
  have hd : s.joined.dispatched = false := rfl
  have hentered (hp' : s.joined.fsm.producing = true) :
      s.joined.nodeWritten r j ↔ r < s.joined.curLevel.toNat := by
    simp [State.nodeWritten_of_producing hp', hd]
  have hrounds (hc : s.check = .none) := h.roundsOf_lt hc
  obtain ⟨-, -, -, -, -, -, hcheck, hinternal, hroot, -⟩ := h
  have hlt := hrounds (hcheck hp)
  rcases State.nextLevel_cases hp with ⟨-, hnext, heq⟩ | ⟨hf, hlast, heq⟩ | ⟨hf, heq⟩ <;> rw [heq] at hfsm hcur
  · rw [hentered (by rw [hfsm]; rfl), hcur, BitVec.toNat_add_of_lt (by simp; omega)]
    exact Nat.lt_succ_iff
  · have hle := hinternal hf
    rw [hentered (by rw [hfsm]; rfl), hcur, BitVec.toNat_ofNat, Nat.mod_eq_of_lt hlt]
    omega
  · have hle : r ≤ s.curLevel.toNat := by
      rw [hroot hf, roundsOf]
      omega
    exact iff_of_true (.inl hfsm) hle

/-- A turn that stores nothing writes no Node. -/
theorem State.nodeWritten_turned {s : State} {i : Instr} {k : Nat} {l : Lane} (hl : s.lanes[k]? = some l)
    (h : l.stored i = []) (r j : Nat) : (s.turned i k l).nodeWritten r j ↔ s.nodeWritten r j := by
  rw [State.nodeWritten, State.pairWritten_turned_of_stored_nil hl h]
  rfl

/-- While the run is BUSY, an instruction that stores nothing writes no Node and keeps the configuration or ends the run. -/
theorem RunRecord.busy_step {K : Nat} {ws : List Nat} {i : Instr} {s t : State} (h : RunRecord K ws s)
    (hb : s.busy = true) (hleaves : s.leaves = 2 ^ K) (hcheck : s.check = .none) (hr : i ≠ .reset)
    (hno : ∀ lane l, i.lane? = some lane → s.lanes[lane.toNat]? = some l → l.stored i = [])
    (hexec : exec i s = .next t) : RunRecord K ws t := by
  have hinv := exec_keeps_inv h.inv hexec
  have hK : Nat.log2 s.leaves = K := by rw [hleaves, Nat.log2_two_pow]
  rcases Instr.agent_cases i with hrd | hwr | rfl | rfl | rfl | rfl | ⟨lane, hlane⟩
  · obtain ⟨idx, heq⟩ := exec_of_hostRd hrd s
    cases heq.symm.trans hexec
    exact h.keep hinv h.phase fun _ _ _ _ => Iff.rfl
  · obtain ⟨idx, data, heq⟩ := exec_of_hostWr hwr s
    rw [hostWrite_eq, State.regWrite_of_busy hb] at heq
    cases heq.symm.trans hexec
    exact h
  · exact absurd rfl hr
  · rcases execOrcCheck_cases s with heq | ⟨hf, -, heq⟩ | ⟨-, hne, -⟩
    · cases heq.symm.trans hexec
      exact h
    · cases heq.symm.trans hexec
      refine h.keep hinv (.inr ⟨?_, hleaves, hcheck⟩) fun r j _ _ => State.nodeWritten_checkPassed hf r j
      rw [State.busy, State.checkPassed_fsm]
      split <;> rfl
    · exact absurd hcheck hne
  · rcases execOrcDispatch_cases s with heq | ⟨hp, hd, heq⟩
    · cases heq.symm.trans hexec
      exact h
    · cases heq.symm.trans hexec
      exact h.keep hinv (.inr ⟨hb, hleaves, hcheck⟩) fun r j _ _ => State.nodeWritten_allCommanded hp hd r j
  · rcases execOrcJoin_cases s with heq | ⟨hp, hdone, heq⟩
    · cases heq.symm.trans hexec
      exact h
    · cases heq.symm.trans hexec
      refine h.keep hinv ?_ fun r j hr' hj => h.inv.nodeWritten_joined hp hdone (hK ▸ hr') (hleaves ▸ hj)
      have hfsm : s.joined.fsm = s.nextLevel.1 := rfl
      rcases State.nextLevel_cases hp with ⟨-, -, hnext⟩ | ⟨-, -, hnext⟩ | ⟨-, hnext⟩ <;> rw [hnext] at hfsm
      · exact .inr ⟨by rw [State.busy, hfsm]; rfl, hleaves, hcheck⟩
      · exact .inr ⟨by rw [State.busy, hfsm]; rfl, hleaves, hcheck⟩
      · exact .inl hfsm
  · obtain ⟨l, hl, rfl⟩ := exec_next_turned hlane hexec
    exact h.keep hinv (.inr ⟨hb, hleaves, hcheck⟩) fun r j _ _ =>
      State.nodeWritten_turned hl (hno lane l hlane hl) r j

/-- Every step of a run but START and RESET extends the record by the offset it writes. -/
theorem RunRecord.step {K : Nat} {ws : List Nat} {i : Instr} {s t : State} (h : RunRecord K ws s)
    (hs : i.isStart = false) (hr : i ≠ .reset) (hexec : exec i s = .next t) :
    RunRecord K (ws ++ (writeOffset? i s).toList) t := by
  have hinv := exec_keeps_inv h.inv hexec
  rcases writeOffset?_cases i s with ⟨hnone, hno⟩ | ⟨lane, l, rfl, hl, hw, hoff⟩
  · rw [hnone, Option.toList_none, List.append_nil]
    rcases h.phase with hf | ⟨hb, hleaves, hcheck⟩
    · have hf' := exec_keeps_done hs hr hf hexec
      exact h.keep hinv (.inl hf') fun _ _ _ _ => iff_of_true (.inl hf') (.inl hf)
    · exact h.busy_step hb hleaves hcheck hr hno hexec
  · obtain ⟨m, hm, rfl⟩ := exec_next_turned rfl hexec
    cases hl.symm.trans hm
    rw [hoff]
    exact h.cnsWrite hinv hl hw

/-- Along a run the record grows by the offsets that the run writes. -/
theorem RunRecord.run {K : Nat} {is : List Instr} {ws : List Nat} {s t : State} (h : RunRecord K ws s)
    (his : ∀ i ∈ is, i.isStart = false ∧ i ≠ .reset) (hrun : runSchedule is s = .next t) :
    RunRecord K (ws ++ writtenOffsets is s) t := by
  induction is generalizing ws s with
  | nil =>
    cases hrun
    simpa [writtenOffsets] using h
  | cons i rest ih =>
    obtain ⟨⟨hs, hr⟩, hrest⟩ := List.forall_mem_cons.mp his
    unfold runSchedule at hrun
    cases hexec : exec i s with
    | next u =>
      rw [hexec] at hrun
      have hgoal := ih (h.step hs hr hexec) hrest hrun
      simpa [writtenOffsets, hexec] using hgoal
    | fault r => rw [hexec] at hrun; cases hrun
    | refused r => rw [hexec] at hrun; cases hrun

/-- The record of a run from START with a passing check. -/
theorem RunRecord.of_run {is : List Instr} {s t : State} (hinv : s.Inv) (hf : s.fsm = .leafLevel)
    (hc : s.check = .none) (his : RunSchedule s.cfg is) (hrun : runSchedule is s = .next t) :
    RunRecord (Nat.log2 s.leaves) (writtenOffsets is s) t :=
  (RunRecord.start hinv hf hc).run (fun i hi => (his i hi).2) hrun

/-! ### The obligations -/

/-- Settles O55: at DONE every Node is written, and the Nodes' addresses are the multiples of eight below `8(L−1)`. -/
theorem everyNodeIsWrittenOnce : Obligations.EveryNodeIsWrittenOnce := by
  intro s t is hinv hf hc his hrun hdone
  have hrec := RunRecord.of_run hinv hf hc his hrun
  have hpow : s.leafCnt.toNat = 2 ^ Nat.log2 s.leaves := (two_pow_log2_leaves_of_check hc).symm
  have hnodup : ((List.range (s.leafCnt.toNat - 1)).map (8 * ·)).Nodup :=
    List.nodup_range.map fun _ _ h => Nat.eq_of_mul_eq_mul_left (by omega) h
  refine (List.perm_ext_iff_of_nodup hrec.nodup hnodup).mpr fun a => ?_
  rw [hrec.mem_iff, hpow, List.mem_map]
  constructor
  · rintro ⟨r, j, hr, hj, -, rfl⟩
    have hle := nodeAddr_add_le hr hj
    rw [nodeAddr_eq] at hle ⊢
    exact ⟨_, List.mem_range.mpr (by omega), rfl⟩
  · rintro ⟨n, hn, rfl⟩
    obtain ⟨r, j, hr, hj, heq⟩ := exists_nodeAddr_eq (List.mem_range.mp hn)
    exact ⟨r, j, hr, hj, .inl hdone, heq.symm⟩

/-- Settles O56: a lane with a command of level `r + 1` is in a state whose current level that is, so level `r` is written. -/
theorem barrierOrdersReadsAfterWrites : Obligations.BarrierOrdersReadsAfterWrites := by
  intro s t is l r hinv hf hc his hrun hl hready hlevel j hj
  have hrec := RunRecord.of_run hinv hf hc his hrun
  have hpow : s.leafCnt.toNat = 2 ^ Nat.log2 s.leaves := (two_pow_log2_leaves_of_check hc).symm
  obtain ⟨i, hi⟩ := List.getElem?_of_mem hl
  obtain ⟨hcmd, -⟩ := hrec.inv.of_read hi hready
  have hp := hcmd.producing
  obtain ⟨-, hleaves, -⟩ := hrec.of_producing hp
  have hcur : t.curLevel.toNat = r + 1 := by rw [← hcmd.level, hlevel]
  have hlt := hcmd.level_lt
  rw [hcur, hleaves, Nat.log2_two_pow] at hlt
  rw [hpow] at hj ⊢
  refine (hrec.mem_iff _).mpr ⟨r, j, by omega, hj, (State.nodeWritten_of_producing hp r j).mpr (.inl ?_), rfl⟩
  omega

end Sys2Proof.Machine
end

section
/-! The decoder and the encoder (spec/30_encoding.md R117, R120, R123, R124): each frame's fields, what an index's access
does, and the fields of every event word that decodes. From it O1 to O5, and from the layout of STATUS (R118) O16. -/

namespace Sys2Proof.Machine

/-! ### Access words (R123) -/

theorem extractLsb'_append_middle {a b c : Nat} (x : BitVec a) (y : BitVec b) (z : BitVec c) :
    (x ++ y ++ z).extractLsb' c b = y := by
  rw [BitVec.extractLsb'_append_eq_of_le (Nat.le_refl c), Nat.sub_self, BitVec.extractLsb'_append_eq_right]

theorem decode_access (w : BitVec 37) : decode (.access (0#3 ++ w)) = .ok (decodeAccess w) := by
  have hhigh : (0#3 ++ w).extractLsb' 37 3 = 0#3 := BitVec.extractLsb'_append_eq_left
  have hlow : (0#3 ++ w).extractLsb' 0 37 = w := BitVec.extractLsb'_append_eq_right
  exact (if_pos hhigh).trans (congrArg (fun x => Except.ok (decodeAccess x)) hlow)

@[simp] theorem accessWord_rw (rw : BitVec 1) (idx : BitVec 4) (data : Word) :
    (accessWord rw idx data).extractLsb' 36 1 = rw :=
  (BitVec.extractLsb'_append_eq_of_le (by omega)).trans BitVec.extractLsb'_append_eq_left

@[simp] theorem accessWord_idx (rw : BitVec 1) (idx : BitVec 4) (data : Word) :
    (accessWord rw idx data).extractLsb' 32 4 = idx :=
  extractLsb'_append_middle rw idx data

@[simp] theorem accessWord_data (rw : BitVec 1) (idx : BitVec 4) (data : Word) :
    (accessWord rw idx data).extractLsb' 0 32 = data :=
  BitVec.extractLsb'_append_eq_right

theorem decodeAccess_accessWord (rw : BitVec 1) (idx : BitVec 4) (data : Word) :
    decodeAccess (accessWord rw idx data) = if rw = 1#1 then writeOf idx data else readOf idx := by
  rw [decodeAccess, accessWord_rw, accessWord_idx, accessWord_data]

theorem decode_readFrame (idx : BitVec 4) : decode (readFrame idx) = .ok (readOf idx) := by
  rw [readFrame, decode_access, decodeAccess_accessWord, if_neg (by decide)]

theorem decode_writeFrame (idx : BitVec 4) (data : Word) : decode (writeFrame idx data) = .ok (writeOf idx data) := by
  rw [writeFrame, decode_access, decodeAccess_accessWord, if_pos rfl]

/-- The DATA field of an access frame is the access's whole DATA. -/
theorem data_access (rw : BitVec 1) (idx : BitVec 4) (data : Word) :
    (Frame.access (0#3 ++ accessWord rw idx data)).data = data := by
  have h := BitVec.extractLsb'_append_eq_of_add_le (xhi := 0#3) (xlo := accessWord rw idx data) (start := 0) (len := 32)
    (by omega)
  exact h.trans (accessWord_data rw idx data)

/-! ### Event words (R124) -/

@[simp] theorem eventOf_lane (k : StepKind) (lane : BitVec 8) (idx : BitVec 4) (data : Word) :
    (eventOf k lane idx data).extractLsb' 8 8 = lane :=
  extractLsb'_append_middle (data ++ 0#4 ++ idx) lane k.code

/-- Above the code and the lane of an event word stand its index, four zeros and its data. -/
theorem extractLsb'_eventOf {start len : Nat} (h : 16 ≤ start) (k : StepKind) (lane : BitVec 8) (idx : BitVec 4)
    (data : Word) :
    (eventOf k lane idx data).extractLsb' start len = (data ++ 0#4 ++ idx).extractLsb' (start - 8 - 8) len :=
  (BitVec.extractLsb'_append_eq_of_le (by omega)).trans (BitVec.extractLsb'_append_eq_of_le (by omega))

@[simp] theorem eventOf_idx (k : StepKind) (lane : BitVec 8) (idx : BitVec 4) (data : Word) :
    (eventOf k lane idx data).extractLsb' 16 4 = idx :=
  (extractLsb'_eventOf (by omega) k lane idx data).trans BitVec.extractLsb'_append_eq_right

@[simp] theorem eventOf_gap (k : StepKind) (lane : BitVec 8) (idx : BitVec 4) (data : Word) :
    (eventOf k lane idx data).extractLsb' 20 4 = 0#4 :=
  (extractLsb'_eventOf (by omega) k lane idx data).trans (extractLsb'_append_middle data 0#4 idx)

@[simp] theorem eventOf_data (k : StepKind) (lane : BitVec 8) (idx : BitVec 4) (data : Word) :
    (eventOf k lane idx data).extractLsb' 24 32 = data :=
  (extractLsb'_eventOf (by omega) k lane idx data).trans
    ((BitVec.extractLsb'_append_eq_of_le (by omega)).trans BitVec.extractLsb'_append_eq_left)

theorem decode_eventOf (k : StepKind) (lane : BitVec 8) (idx : BitVec 4) (data : Word) :
    decode (.event (eventOf k lane idx data)) = decodeEventFields k.code lane idx 0#4 data := by
  rw [decode, decodeEvent, Laws.extract_code_eventOf, eventOf_lane, eventOf_idx, eventOf_gap, eventOf_data]

/-- An event word is made of its five fields. -/
theorem append_fields_eq (w : BitVec 56) :
    w.extractLsb' 24 32 ++ w.extractLsb' 20 4 ++ w.extractLsb' 16 4 ++ w.extractLsb' 8 8 ++ w.extractLsb' 0 8 = w := by
  have hjoin {a b m n : Nat} (h : a = b + n) : w.extractLsb' a m ++ w.extractLsb' b n = w.extractLsb' b (m + n) :=
    BitVec.extractLsb'_append_extractLsb'_eq_extractLsb' h
  rw [hjoin (show 24 = 20 + 4 from rfl), hjoin (show 20 = 16 + 4 from rfl), hjoin (show 16 = 8 + 8 from rfl),
    hjoin (show 8 = 0 + 8 from rfl)]
  exact BitVec.extractLsb'_eq_self

/-- Settles O1: a row of format `host_access` is the access of its index, every other row the event of its step kind, and a
frame's fields are those it was made of. -/
theorem decodeInvertsEncode : Obligations.DecodeInvertsEncode := by
  intro i
  cases i with
  | rdCtrl | rdStatus | rdLeafCnt | rdInWords | rdOutWords | rdConfig => exact decode_readFrame _
  | rdRsvd6 | rdRsvd7 | rdRsvd8 | rdRsvd9 | rdRsvd10 | rdRsvd11 | rdRsvd12 | rdRsvd13 | rdRsvd14 | rdRsvd15 =>
    exact decode_readFrame _
  | wrCtrl start =>
    have hbit : (start.setWidth 32).extractLsb' 0 1 = start := by
      obtain rfl | rfl := BitVec.eq_zero_or_eq_one start <;> rfl
    exact (decode_writeFrame _ _).trans (congrArg (fun b => Except.ok (Instr.wrCtrl b)) hbit)
  | wrStatus | wrLeafCnt | wrInWords | wrOutWords | wrConfig => exact decode_writeFrame _ _
  | wrRsvd6 | wrRsvd7 | wrRsvd8 | wrRsvd9 | wrRsvd10 | wrRsvd11 | wrRsvd12 | wrRsvd13 | wrRsvd14 | wrRsvd15 =>
    exact decode_writeFrame _ _
  | reset | hostRd | hostWr | orcCheck | orcDispatch | orcJoin => exact decode_eventOf _ _ _ _
  | prdRead | prdPad | prdSend | engRecv | engCompress | engSend | cnsRecv | cnsWrite | cnsDone =>
    exact decode_eventOf _ _ _ _

/-! ### The access of an index (R117, R260) -/

/-- A read access is the Host's read of its index. -/
theorem readOf_eq (idx : BitVec 4) :
    (readOf idx).kind = .hostRd ∧ (readOf idx).lane? = none ∧ (readOf idx).hostFields.1 = idx ∧
      ∀ s, exec (readOf idx) s = hostRead idx s := by
  obtain ⟨n⟩ := idx
  fin_cases n <;> exact ⟨rfl, rfl, rfl, fun _ => rfl⟩

theorem State.regWrite_ctrl (s : State) (data : Word) :
    s.regWrite 0#4 data = if data.getLsbD 0 && !s.busy then s.start else s := rfl

/-- CTRL looks at DATA bit 0 alone (R120, R267). -/
theorem State.regWrite_ctrl_bit (s : State) (data : Word) :
    s.regWrite 0#4 ((data.extractLsb' 0 1).setWidth 32) = s.regWrite 0#4 data := by
  have hbit : ((data.extractLsb' 0 1).setWidth 32).getLsbD 0 = data.getLsbD 0 := by simp
  rw [State.regWrite_ctrl, State.regWrite_ctrl, hbit]

/-- A write access is the Host's write of its DATA to its index, though it keeps only what the register looks at. -/
theorem writeOf_eq (idx : BitVec 4) (data : Word) :
    (writeOf idx data).kind = .hostWr ∧ (writeOf idx data).lane? = none ∧ (writeOf idx data).hostFields.1 = idx ∧
      ∀ s, exec (writeOf idx data) s = hostWrite idx data s := by
  obtain ⟨n⟩ := idx
  fin_cases n
  · exact ⟨rfl, rfl, rfl, fun s => congrArg Host.Outcome.next (s.regWrite_ctrl_bit data)⟩
  all_goals exact ⟨rfl, rfl, rfl, fun _ => rfl⟩

/-- Settles O2: by the direction, the access is `readOf` or `writeOf` of its index, which is the Host's step. -/
theorem everyAccessIsAHostStep : Obligations.EveryAccessIsAHostStep := by
  intro rw idx data
  refine ⟨_, (decode_access _).trans (congrArg Except.ok (decodeAccess_accessWord rw idx data)), ?_⟩
  rw [data_access]
  by_cases hrw : rw = 1#1
  · obtain ⟨hkind, hlane, hidx, hexec⟩ := writeOf_eq idx data
    simp only [if_pos hrw]
    refine ⟨hkind, fun s => ⟨s.regWrite idx data, hexec s, rfl, ?_⟩⟩
    simp [eventAt, eventData, hkind, hlane, hidx, StepKind.code]
  · obtain ⟨hkind, hlane, hidx, hexec⟩ := readOf_eq idx
    simp only [if_neg hrw]
    refine ⟨hkind, fun s => ⟨{ s with rdata := s.regRead idx }, hexec s, rfl, ?_⟩⟩
    simp [eventAt, eventData, hkind, hlane, hidx, StepKind.code]

/-! ### The fields of an event word that decodes -/

/-- A code names the one kind whose code it is. -/
theorem code_of_ofCode {c : BitVec 8} {k : StepKind} (h : StepKind.ofCode c = some k) : k.code = c := by
  unfold StepKind.ofCode at h
  split at h <;> cases h <;> exact BitVec.eq_of_toNat_eq (Eq.symm ‹_›)

theorem ifClear_eq_ok {stray : Bool} {i j : Instr} : ifClear stray i = .ok j ↔ stray = false ∧ i = j := by
  cases stray <;> simp [ifClear]

/-- An event's fields that decode are those of the instruction they decode to, but for the data of a HOST_RD. -/
theorem decodeEventFields_eq_ok {code lane : BitVec 8} {idx gap : BitVec 4} {data : Word} {i : Instr}
    (h : decodeEventFields code lane idx gap data = .ok i) :
    i.kind.code = code ∧ i.lane?.getD 0#8 = lane ∧ i.hostFields.1 = idx ∧ gap = 0#4 ∧
      (i.kind ≠ .hostRd → i.hostFields.2 = data) := by
  unfold decodeEventFields at h
  split at h
  · cases h
  all_goals
    rename_i hcode
    obtain ⟨hclear, rfl⟩ := ifClear_eq_ok.mp h
    refine ⟨code_of_ofCode hcode, ?_⟩
    simp_all [Instr.lane?, Instr.hostFields, Instr.kind]

theorem decode_event_eq_ok {w : BitVec 56} {i : Instr} (h : decode (.event w) = .ok i) :
    i.kind.code = w.extractLsb' 0 8 ∧ i.lane?.getD 0#8 = w.extractLsb' 8 8 ∧ i.hostFields.1 = w.extractLsb' 16 4 ∧
      w.extractLsb' 20 4 = 0#4 ∧ (i.kind ≠ .hostRd → i.hostFields.2 = w.extractLsb' 24 32) :=
  decodeEventFields_eq_ok h

/-- A code outside R124's table names no kind. -/
theorem decode_event_of_reserved {w : BitVec 56} (h : ∀ k : StepKind, k.code ≠ w.extractLsb' 0 8) :
    decode (.event w) = .error .reservedStepCode := by
  have hnone : StepKind.ofCode (w.extractLsb' 0 8) = none := by
    cases hk : StepKind.ofCode (w.extractLsb' 0 8) with
    | none => rfl
    | some k => exact absurd (code_of_ofCode hk) (h k)
  rw [decode, decodeEvent, decodeEventFields, hnone]

/-- Settles O3: a code that is no kind's is reserved; the fields of a word that decodes, and of an event recorded, are those
of its instruction. -/
theorem eventCodesNameTheirSteps : Obligations.EventCodesNameTheirSteps := by
  refine ⟨fun w => ⟨fun hcode => decode_event_of_reserved fun k hk => hcode ?_, fun i hd => ?_⟩, fun i data s => ?_⟩
  · rw [← hk]
    cases k <;> decide
  · obtain ⟨hcode, hlane, -⟩ := decode_event_eq_ok hd
    refine ⟨hcode, fun lane hl => ?_⟩
    rw [← hlane, hl, Option.getD_some]
  · refine ⟨Laws.ofCode_code i.kind, fun lane hl => ?_, fun hl => ?_⟩ <;> rw [eventAt_lane, hl]
    · exact Option.getD_some
    · exact Option.getD_none

/-- Settles O4: a word is made of its fields, which are the instruction's. -/
theorem eventWordsAreExact : Obligations.EventWordsAreExact := by
  intro w i hd hkind
  obtain ⟨hcode, hlane, hidx, hgap, hdata⟩ := decode_event_eq_ok hd
  rw [eventWord, eventOf, hcode, hlane, hidx, hdata hkind, ← hgap]
  exact append_fields_eq w

/-- Settles O5: each word by evaluation. -/
theorem writtenOutWordsDecode : Obligations.WrittenOutWordsDecode := by
  refine ⟨?_, ?_, ?_, ?_, ?_, ?_, ?_, ?_, ?_, ?_⟩ <;> decide

/-! ### STATUS (R118) -/

section
variable (s : State)

theorem State.statusWord_busy : s.statusWord.getLsbD 0 = s.busy := by
  simp [State.statusWord, flagAt]

theorem State.statusWord_isDone : s.statusWord.getLsbD 1 = s.isDone := by
  simp [State.statusWord, flagAt]

theorem State.statusWord_isError : s.statusWord.getLsbD 2 = s.isError := by
  simp [State.statusWord, flagAt]

theorem State.statusWord_dispatched : s.statusWord.getLsbD 3 = s.dispatched := by
  simp [State.statusWord, flagAt]

theorem State.statusWord_errCode : s.statusWord.extractLsb' 4 4 = s.errCode.code := by
  apply BitVec.eq_of_getLsbD_eq
  intro n hn
  interval_cases n <;> simp [State.statusWord, flagAt]

theorem State.statusWord_fsm : s.statusWord.extractLsb' 8 3 = s.fsm.code := by
  apply BitVec.eq_of_getLsbD_eq
  intro n hn
  interval_cases n <;> simp [State.statusWord, flagAt]

theorem State.statusWord_curLevel : s.statusWord.extractLsb' 16 5 = s.curLevel := by
  apply BitVec.eq_of_getLsbD_eq
  intro n hn
  interval_cases n <;> simp [State.statusWord, flagAt]

/-- The reserved bits: 15:11 and 31:21 (R118). -/
theorem State.statusWord_reserved : s.statusWord.extractLsb' 11 5 = 0#5 ∧ s.statusWord.extractLsb' 21 11 = 0#11 := by
  constructor <;> apply BitVec.eq_of_getLsbD_eq <;> intro n hn
  · interval_cases n <;> simp [State.statusWord, flagAt]
  · interval_cases n <;> simp [State.statusWord, flagAt]
end

theorem State.busy_eq_decide (s : State) :
    s.busy = decide (s.fsm = .leafLevel ∨ s.fsm = .internalLevel ∨ s.fsm = .root) := by
  unfold State.busy
  cases s.fsm <;> rfl

/-- Settles O16: STATUS field by field, with the codes of R121 and R122. -/
theorem statusReadsItsFields : Obligations.StatusReadsItsFields := by
  intro s
  obtain ⟨hlow, hhigh⟩ := s.statusWord_reserved
  refine ⟨s.statusWord, rfl, s.statusWord_busy.trans s.busy_eq_decide, s.statusWord_isDone, s.statusWord_isError,
    s.statusWord_dispatched, ?_, ?_, hlow, s.statusWord_curLevel, hhigh⟩
  · rw [s.statusWord_errCode]
    refine ⟨?_, ?_, ?_, ?_, ?_⟩ <;> intro h <;> rw [h] <;> rfl
  · rw [s.statusWord_fsm]
    refine ⟨?_, ?_, ?_, ?_, ?_, ?_⟩ <;> intro h <;> rw [h] <;> rfl

end Sys2Proof.Machine
end

section
/-! Progress and the number of steps of a run (spec/44_lanes.md R250): some step of a busy block is enabled, and each enabled
step of a block agent uses up one of the steps that `State.stepsLeft` counts. -/

namespace Sys2Proof.Machine

/-! ### Some step of a lane with work left is enabled -/

/-- Whether the condition of one of the nine steps of a lane holds. -/
def Lane.ready (c : Config) (l : Lane) : Bool :=
  l.readReady || l.padReady || l.sendReady c || l.engRecvReady || l.compressReady || l.engSendReady c || l.recvReady ||
    l.writeReady || l.doneReady

theorem State.any_enabled_laneSteps {s : State} {lane : BitVec 8} {l : Lane} (hl : s.lanes[lane.toNat]? = some l) :
    ((laneSteps lane).any fun i => enabled i s) = l.ready s.cfg := by
  simp [laneSteps, enabled, State.laneReady_of_lane hl, Lane.ready, Bool.or_assoc]

theorem mem_laneSteps {i : Instr} {lane : BitVec 8} (hi : i.lane? = some lane) : i ∈ laneSteps lane := by
  cases i <;> simp_all [Instr.lane?, laneSteps]

/-- A lane without a command holds nothing, so none of its steps is enabled (R54 b). -/
theorem Lane.Ok.cmdValid_of_ready {c : Config} {l : Lane} (hok : Lane.Ok c l) (h : l.ready c = true) :
    l.cmdValid = true := by
  by_contra hne
  obtain ⟨hnothing, -⟩ := hok.1 (by simpa using hne)
  simp only [Lane.holdsNothing, Bool.and_eq_true, List.isEmpty_iff, beq_iff_eq] at hnothing
  simp_all [Lane.ready, Lane.readReady, Lane.padReady, Lane.sendReady, Lane.engRecvReady, Lane.compressReady,
    Lane.engSendReady, Lane.recvReady, Lane.writeReady, Lane.doneReady]

/-- A pair in flight can move on: the stage nearest to NodeMem that holds one has room in front of it. -/
theorem Lane.Ok.ready_of_inFlight {c : Config} {l : Lane} (hok : Lane.Ok c l) (hdepth : 0 < c.chanDepth)
    (hfl : l.inFlight ≠ 0) : l.ready c = true := by
  have hv : l.cmdValid = true := by
    by_contra hne
    obtain ⟨hnothing, -⟩ := hok.1 (by simpa using hne)
    exact hfl (Lane.holdsNothing_iff.mp hnothing).1
  obtain ⟨⟨hsent, hle⟩, -⟩ := (Lane.ok_iff_of_command hv).mp hok
  cases hcns : l.cnsPhase with
  | write => simp [Lane.ready, Lane.writeReady_iff.mpr hcns]
  | recv =>
    by_cases hrsp : l.rsp = []
    · cases heng : l.engPhase with
      | compute => simp [Lane.ready, Lane.compressReady_iff.mpr heng]
      | out => simp [Lane.ready, Lane.engSendReady_iff.mpr ⟨heng, by simpa [hrsp] using hdepth⟩]
      | idle =>
        have hreq : l.req ≠ [] := fun hreq => hfl (by simp [Lane.inFlight_eq, heng, hcns, hrsp, hreq, EngPhase.held,
          CnsPhase.held])
        simp [Lane.ready, Lane.engRecvReady_iff.mpr ⟨heng, hreq⟩]
    · simp [Lane.ready, Lane.recvReady_iff.mpr ⟨hv, hcns, by omega, hrsp⟩]

/-- A lane that has not committed can move: its pairs in flight, its producer, or its CNS_DONE (R250). -/
theorem Lane.Ok.ready_of_not_done {c : Config} {l : Lane} (hok : Lane.Ok c l) (hdepth : 0 < c.chanDepth)
    (hv : l.cmdValid = true) (hd : l.done = false) : l.ready c = true := by
  by_cases hfl : l.inFlight = 0
  · obtain ⟨⟨hsent, hle⟩, -⟩ := (Lane.ok_iff_of_command hv).mp hok
    have hempty := hfl
    rw [Lane.inFlight_eq] at hempty
    cases hprd : l.prdPhase with
    | pad => simp [Lane.ready, Lane.padReady_iff.mpr hprd]
    | send => simp [Lane.ready, Lane.sendReady_iff.mpr ⟨hprd, (by omega : l.req.length < c.chanDepth)⟩]
    | read =>
      by_cases hk : l.prdK.toNat < l.cmdCount.toNat
      · simp [Lane.ready, Lane.readReady_iff.mpr ⟨hv, hprd, hk⟩]
      · have hcount : l.cnsK = l.cmdCount := BitVec.eq_of_toNat_eq (by omega)
        have hcns : l.cnsPhase = .recv := by
          cases hcns : l.cnsPhase with
          | recv => rfl
          | write => simp [hcns, CnsPhase.held] at hempty
        simp [Lane.ready, Lane.doneReady_iff.mpr ⟨hv, hd, hcns, hcount⟩]
  · exact hok.ready_of_inFlight hdepth hfl

/-! ### Some step of a busy block is enabled -/

theorem mem_blockSteps_of_laneSteps {c : Config} {lane : BitVec 8} {i : Instr} (hlane : lane.toNat < c.lanes)
    (hi : i ∈ laneSteps lane) : i ∈ blockSteps c := by
  refine List.mem_append_right _ (List.mem_flatMap.mpr ⟨lane.toNat, List.mem_range.mpr hlane, ?_⟩)
  rwa [BitVec.ofNat_toNat, BitVec.setWidth_eq]

theorem isBlock_of_mem_blockSteps {c : Config} {i : Instr} (hi : i ∈ blockSteps c) : i.isBlock = true := by
  rcases List.mem_append.mp hi with hi | hi
  · simp only [List.mem_cons, List.not_mem_nil, or_false] at hi
    rcases hi with rfl | rfl | rfl <;> rfl
  · obtain ⟨n, -, hi⟩ := List.mem_flatMap.mp hi
    simp only [laneSteps, List.mem_cons, List.not_mem_nil, or_false] at hi
    rcases hi with rfl | rfl | rfl | rfl | rfl | rfl | rfl | rfl | rfl <;> rfl

/-- The block's agents are the orchestrator and the lanes (R124). -/
theorem Instr.block_cases {i : Instr} (h : i.isBlock = true) :
    i = .orcCheck ∨ i = .orcDispatch ∨ i = .orcJoin ∨ ∃ lane, i.lane? = some lane := by
  cases i <;> simp_all [Instr.isBlock, Instr.kind, StepKind.isBlock, Instr.lane?]

/-- While a level is dispatched some lane can move, or all have committed and the barrier opens. -/
theorem State.Inv.exists_enabled_of_dispatched {s : State} (h : s.Inv) (hp : s.fsm.producing = true)
    (hd : s.dispatched = true) : ∃ i ∈ blockSteps s.cfg, enabled i s = true := by
  by_cases hdone : ∀ l ∈ s.lanes, l.done = true
  · refine ⟨.orcJoin, by simp [blockSteps], ?_⟩
    simpa [enabled, State.joinReady, hp, hd] using hdone
  · push Not at hdone
    obtain ⟨l, hlmem, hne⟩ := hdone
    obtain ⟨k, hl⟩ := List.getElem?_of_mem hlmem
    have hok := h.lane_ok hl
    obtain ⟨hcfg, ⟨hlen, -⟩, -, -, hvalid, -⟩ := h
    simp only [Config.wf, Bool.and_eq_true, decide_eq_true_eq] at hcfg
    have hk : k < s.cfg.lanes := hlen ▸ (List.getElem?_eq_some_iff.mp hl).1
    have hlane : (BitVec.ofNat 8 k).toNat = k := by
      rw [BitVec.toNat_ofNat]
      omega
    rw [← hlane] at hl
    have hready := hok.ready_of_not_done (by omega) ((hvalid l hlmem).trans hd) (by simpa using hne)
    rw [← State.any_enabled_laneSteps hl, List.any_eq_true] at hready
    obtain ⟨i, hi, hen⟩ := hready
    exact ⟨i, mem_blockSteps_of_laneSteps (by omega) hi, hen⟩

/-- Progress: the block never deadlocks (R250). -/
theorem State.Inv.exists_enabled {s : State} (h : s.Inv) (hb : s.busy = true) :
    ∃ i ∈ blockSteps s.cfg, enabled i s = true := by
  by_cases hp : s.fsm.producing = true
  · cases hd : s.dispatched with
    | false => exact ⟨.orcDispatch, by simp [blockSteps], by simp [enabled, State.dispatchReady, hp, hd]⟩
    | true => exact h.exists_enabled_of_dispatched hp hd
  · have hf : s.fsm = .leafLevel := by
      unfold State.busy at hb
      cases hf : s.fsm <;> simp_all [Fsm.busy, Fsm.producing]
    exact ⟨.orcCheck, by simp [blockSteps], by simp [enabled, State.checkReady, hf]⟩

/-! ### The steps of a lane -/

/-- The steps of its current pair that the producer has taken, by its phase. -/
def PrdPhase.steps : PrdPhase → Nat
  | .read => 0
  | .pad => 1
  | .send => 2

/-- The steps of its current pair that the engine has taken, by its phase. -/
def EngPhase.steps : EngPhase → Nat
  | .idle => 0
  | .compute => 1
  | .out => 2

theorem PrdPhase.steps_eq (p : PrdPhase) : p.steps = (if p = .send then 1 else 0) + (if p = .read then 0 else 1) := by
  cases p <;> rfl

theorem EngPhase.steps_eq (e : EngPhase) : e.steps = (if e = .out then 1 else 0) + (if e = .idle then 0 else 1) := by
  cases e <;> rfl

theorem CnsPhase.held_eq (c : CnsPhase) : c.held = if c = .write then 1 else 0 := by
  cases c <;> rfl

/-- A sent pair has taken its three steps of the producer, an answered one its three of the engine, a written one its two of
the consumer. -/
theorem Lane.pairSteps_eq (l : Lane) :
    l.pairSteps = 5 * l.cnsK.toNat + 4 * l.cnsPhase.held + 3 * l.rsp.length + l.engPhase.steps + 3 * l.prdK.toNat +
      l.prdPhase.steps := by
  rw [PrdPhase.steps_eq, EngPhase.steps_eq, CnsPhase.held_eq, Lane.pairSteps]
  omega

/-- A lane with a command has taken at most eight steps for each of its pairs. -/
theorem Lane.Ok.pairSteps_le {c : Config} {l : Lane} (hok : Lane.Ok c l) (hv : l.cmdValid = true) :
    l.pairSteps ≤ 8 * l.cmdCount.toNat := by
  obtain ⟨⟨hsent, hle⟩, hphase, -⟩ := (Lane.ok_iff_of_command hv).mp hok
  have hprd : l.prdK.toNat + (if l.prdPhase = .read then 0 else 1) ≤ l.cmdCount.toNat := by
    split
    · exact hle
    · exact hphase ‹_›
  have hprdSteps : l.prdPhase.steps ≤ 3 * (if l.prdPhase = .read then 0 else 1) := by cases l.prdPhase <;> decide
  have hengSteps : l.engPhase.steps ≤ 3 * l.engPhase.held := by cases l.engPhase <;> decide
  rw [Lane.inFlight_eq] at hsent
  rw [Lane.pairSteps_eq]
  omega

/-- A move that takes one of the eight steps of a pair uses up one of the lane's steps. -/
theorem Lane.Moves.stepsLeft {c : Config} {l m : Lane} (h : l.Moves c m) (hok : Lane.Ok c l) (hd : m.done = l.done)
    (hsteps : m.pairSteps = l.pairSteps + 1) : m.stepsLeft + 1 = l.stepsLeft := by
  obtain ⟨hv, -, hcount⟩ := h.command_eq
  have hle := (h.ok hok).pairSteps_le (hv.trans (h.cmdValid hok))
  rw [Lane.stepsLeft, Lane.stepsLeft, hcount, hd]
  rw [hcount] at hle
  omega

theorem Lane.stepsLeft_committed {l : Lane} (h : l.doneReady = true) : l.committed.stepsLeft + 1 = l.stepsLeft := by
  obtain ⟨-, hd, -⟩ := Lane.doneReady_iff.mp h
  have hsteps : l.committed.pairSteps = l.pairSteps := rfl
  simp [Lane.stepsLeft, hsteps, hd]

section
variable {c : Config} {l : Lane} (hok : Lane.Ok c l)
include hok

theorem Lane.Ok.stepsLeft_pairRead {p : SiblingPair} (h : l.readReady = true) :
    (l.pairRead p).stepsLeft + 1 = l.stepsLeft := by
  obtain ⟨hv, hread, hk⟩ := Lane.readReady_iff.mp h
  refine (Lane.Moves.pairRead p hv hk : l.Moves c _).stepsLeft hok rfl ?_
  simp [Lane.pairSteps_eq, PrdPhase.steps, hread]

theorem Lane.Ok.stepsLeft_padded (h : l.padReady = true) : l.padded.stepsLeft + 1 = l.stepsLeft := by
  have hpad := Lane.padReady_iff.mp h
  refine (Lane.Moves.padded hpad : l.Moves c _).stepsLeft hok rfl ?_
  simp [Lane.pairSteps_eq, PrdPhase.steps, hpad]

theorem Lane.Ok.stepsLeft_blockSent (h : l.sendReady c = true) : l.blockSent.stepsLeft + 1 = l.stepsLeft := by
  obtain ⟨hsend, hroom⟩ := Lane.sendReady_iff.mp h
  have hmove : l.Moves c l.blockSent := .blockSent hsend hroom
  obtain ⟨-, hphase, -⟩ := (Lane.ok_iff_of_command (hmove.cmdValid hok)).mp hok
  refine hmove.stepsLeft hok rfl ?_
  simp only [Lane.pairSteps_eq, PrdPhase.steps, hsend, Lane.blockSent_prdK, toNat_add_one_of_lt (hphase (by simp [hsend])),
    Lane.blockSent_prdPhase, Lane.blockSent_cnsK, Lane.blockSent_cnsPhase, Lane.blockSent_rsp, Lane.blockSent_engPhase]
  omega

theorem Lane.Ok.stepsLeft_blockTaken {b : PaddedBlock} {rest : List PaddedBlock} (h : l.engRecvReady = true)
    (hreq : l.req = b :: rest) : (l.blockTaken b rest).stepsLeft + 1 = l.stepsLeft := by
  obtain ⟨hidle, -⟩ := Lane.engRecvReady_iff.mp h
  refine (Lane.Moves.blockTaken hidle hreq : l.Moves c _).stepsLeft hok rfl ?_
  simp [Lane.pairSteps_eq, EngPhase.steps, hidle]
  omega

theorem Lane.Ok.stepsLeft_compressed (h : l.compressReady = true) : l.compressed.stepsLeft + 1 = l.stepsLeft := by
  have hcomp := Lane.compressReady_iff.mp h
  refine (Lane.Moves.compressed hcomp : l.Moves c _).stepsLeft hok rfl ?_
  simp [Lane.pairSteps_eq, EngPhase.steps, hcomp]
  omega

theorem Lane.Ok.stepsLeft_digestSent (h : l.engSendReady c = true) : l.digestSent.stepsLeft + 1 = l.stepsLeft := by
  obtain ⟨hout, hroom⟩ := Lane.engSendReady_iff.mp h
  refine (Lane.Moves.digestSent hout hroom : l.Moves c _).stepsLeft hok rfl ?_
  simp [Lane.pairSteps_eq, EngPhase.steps, hout]
  omega

theorem Lane.Ok.stepsLeft_digestTaken {d : Digest} {rest : List Digest} (h : l.recvReady = true)
    (hrsp : l.rsp = d :: rest) : (l.digestTaken d rest).stepsLeft + 1 = l.stepsLeft := by
  obtain ⟨-, hrecv, -⟩ := Lane.recvReady_iff.mp h
  refine (Lane.Moves.digestTaken hrecv hrsp : l.Moves c _).stepsLeft hok rfl ?_
  simp [Lane.pairSteps_eq, CnsPhase.held, hrecv, hrsp]
  omega

theorem Lane.Ok.stepsLeft_nodeWritten (h : l.writeReady = true) : l.nodeWritten.stepsLeft + 1 = l.stepsLeft := by
  have hwrite := Lane.writeReady_iff.mp h
  obtain ⟨-, hk⟩ := hok.cnsK_lt_of_write hwrite
  refine (Lane.Moves.nodeWritten hwrite : l.Moves c _).stepsLeft hok rfl ?_
  simp only [Lane.pairSteps_eq, CnsPhase.held, hwrite, Lane.nodeWritten_cnsK, toNat_add_one_of_lt hk,
    Lane.nodeWritten_cnsPhase, Lane.nodeWritten_rsp, Lane.nodeWritten_engPhase, Lane.nodeWritten_prdK,
    Lane.nodeWritten_prdPhase]
  omega

/-- A lane that has committed has no step left at its level. -/
theorem Lane.Ok.stepsLeft_of_done (hv : l.cmdValid = true) (hd : l.done = true) : l.stepsLeft = 0 := by
  obtain ⟨⟨hsent, -⟩, -, hcount, -⟩ := (Lane.ok_iff_of_command hv).mp hok
  obtain ⟨hfl, -⟩ := Lane.holdsNothing_iff.mp (hok.holdsNothing_of_done hd)
  have hk := congrArg BitVec.toNat (hcount hd)
  simp only [Lane.stepsLeft, Lane.pairSteps_eq, hd, if_true]
  omega
end

/-- Each enabled step of a lane uses up one of the lane's steps. -/
theorem State.stepsLeft_laneAfter {i : Instr} {lane : BitVec 8} {s : State} {l : Lane} (hok : Lane.Ok s.cfg l)
    (hi : i.lane? = some lane) (hl : s.lanes[lane.toNat]? = some l) (he : enabled i s = true) :
    (s.laneAfter i lane.toNat l).stepsLeft + 1 = l.stepsLeft := by
  have hready {ready : Lane → Bool} (h : s.laneReady lane ready = true) : ready l = true :=
    (State.laneReady_of_lane hl ready).symm.trans h
  cases i with
  | prdRead j => cases hi; rw [State.laneAfter, if_pos (hready he)]; exact hok.stepsLeft_pairRead (hready he)
  | prdPad j => cases hi; rw [State.laneAfter, if_pos (hready he)]; exact hok.stepsLeft_padded (hready he)
  | prdSend j => cases hi; rw [State.laneAfter, if_pos (hready he)]; exact hok.stepsLeft_blockSent (hready he)
  | engRecv j =>
    cases hi
    obtain ⟨b, rest, hreq⟩ := List.exists_cons_of_ne_nil (Lane.engRecvReady_iff.mp (hready he)).2
    rw [State.laneAfter, if_pos (hready he)]
    exact hok.stepsLeft_blockTaken (hready he) (by rw [hreq]; rfl)
  | engCompress j => cases hi; rw [State.laneAfter, if_pos (hready he)]; exact hok.stepsLeft_compressed (hready he)
  | engSend j => cases hi; rw [State.laneAfter, if_pos (hready he)]; exact hok.stepsLeft_digestSent (hready he)
  | cnsRecv j =>
    cases hi
    obtain ⟨-, -, -, hne⟩ := Lane.recvReady_iff.mp (hready he)
    obtain ⟨d, rest, hrsp⟩ := List.exists_cons_of_ne_nil hne
    rw [State.laneAfter, if_pos (hready he)]
    exact hok.stepsLeft_digestTaken (hready he) (by rw [hrsp]; rfl)
  | cnsWrite j => cases hi; rw [State.laneAfter, if_pos (hready he)]; exact hok.stepsLeft_nodeWritten (hready he)
  | cnsDone j => cases hi; rw [State.laneAfter, if_pos (hready he)]; exact Lane.stepsLeft_committed (hready he)
  | _ => cases hi

/-! ### The steps of a level -/

/-- The steps of `k` levels, the topmost of one pair: a dispatch and a join for each level, eight steps for each pair and a
CNS_DONE for each lane of each level (R250). -/
def levelsLength (N k : Nat) : Nat := k * (2 + N) + 8 * (2 ^ k - 1)

theorem levelsLength_succ (N k : Nat) : levelsLength N (k + 1) = levelsLength N k + (2 + N + 8 * 2 ^ k) := by
  have := Nat.two_pow_pos k
  rw [levelsLength, levelsLength, Nat.pow_succ, Nat.succ_mul]
  omega

theorem runLength_two_pow (N K : Nat) : runLength N (2 ^ K) = 1 + levelsLength N K := by
  rw [runLength, levelsLength, Nat.log2_two_pow, Nat.mul_add, Nat.mul_comm K 2, Nat.mul_comm K N]
  omega

/-- One more pair goes to the lane that has it (R187). -/
theorem lanePairs_succ {P N i : Nat} (hi : i < N) :
    lanePairs (P + 1) N i = lanePairs P N i + if i = P % N then 1 else 0 := by
  have hN := Nat.zero_lt_of_lt hi
  refine eq_of_forall_lt_iff fun k => ?_
  have hnew : k < lanePairs (P + 1) N i ↔ k < lanePairs P N i ∨ pairIndex N i k = P := by
    rw [lt_lanePairs_iff hN, lt_lanePairs_iff hN, Nat.lt_succ_iff_lt_or_eq]
  rw [hnew]
  split
  · rename_i heq
    have hP : P = pairIndex N i (P / N) := by rw [heq, pairIndex_mod_div]
    have hcount : lanePairs P N i = P / N := eq_of_forall_lt_iff fun j => by
      rw [lt_lanePairs_iff hN]
      conv_lhs => rw [hP]
      simp [pairIndex, hN]
    have hlast : pairIndex N i k = P ↔ k = P / N :=
      ⟨fun h => by rw [← h, pairIndex_div hi], fun h => by rw [h, ← hP]⟩
    rw [hlast, hcount, Nat.lt_succ_iff_lt_or_eq]
  · rename_i hne
    exact or_iff_left fun h => hne (by rw [← h, pairIndex_mod hi])

/-- The lanes share all the pairs of a level (R186). -/
theorem sum_lanePairs (P : Nat) {N : Nat} (hN : 0 < N) : ((List.range N).map (lanePairs P N)).sum = P := by
  change ∑ i ∈ Finset.range N, lanePairs P N i = P
  induction P with
  | zero => simp [lanePairs]
  | succ P ih =>
    rw [Finset.sum_congr rfl fun i hi => lanePairs_succ (Finset.mem_range.mp hi), Finset.sum_add_distrib, ih,
      Finset.sum_ite_eq' (Finset.range N), if_pos (Finset.mem_range.mpr (Nat.mod_lt P hN))]

/-- A lane that has just been given its command has eight steps for each pair left, and its CNS_DONE. -/
theorem State.stepsLeft_commandLane (s : State) (i : Nat) {l : Lane} (h : l.holdsNothing = true) :
    (s.commandLane i l).stepsLeft = 8 * lanePairs (nodeCount s.leaves s.curLevel.toNat) s.cfg.lanes i + 1 := by
  simp only [Lane.holdsNothing, Bool.and_eq_true, List.isEmpty_iff, beq_iff_eq] at h
  obtain ⟨⟨⟨⟨-, hrsp⟩, heng⟩, -⟩, -⟩ := h
  rw [Lane.stepsLeft, s.commandLane_cmdCount_toNat]
  simp [Lane.pairSteps_eq, hrsp, heng, CnsPhase.held, EngPhase.steps, PrdPhase.steps]

/-- The lanes' steps at a level right after its dispatch. -/
theorem State.Inv.sum_stepsLeft_commandLane {s : State} (h : s.Inv) (hd : s.dispatched = false) :
    ((s.lanes.mapIdx s.commandLane).map Lane.stepsLeft).sum =
      s.cfg.lanes + 8 * nodeCount s.leaves s.curLevel.toNat := by
  obtain ⟨hcfg, ⟨hlen, hlanes⟩, -, -, hvalid, -⟩ := h
  have hN : 0 < s.cfg.lanes := by
    simp only [Config.wf, Bool.and_eq_true, decide_eq_true_eq] at hcfg
    omega
  have hmap : (s.lanes.mapIdx s.commandLane).map Lane.stepsLeft = (List.range s.cfg.lanes).map fun i =>
      8 * lanePairs (nodeCount s.leaves s.curLevel.toNat) s.cfg.lanes i + 1 := by
    refine List.ext_getElem (by simpa using hlen) fun i hi _ => ?_
    have hi : i < s.lanes.length := by simpa using hi
    have hmem := List.getElem_mem hi
    have hnothing := ((hlanes _ hmem).1 ((hvalid _ hmem).trans hd)).1
    simpa using s.stepsLeft_commandLane i hnothing
  rw [hmap, List.sum_map_add, List.sum_map_mul_left, sum_lanePairs _ hN]
  simp [Nat.add_comm]

theorem State.Inv.nodeCount_curLevel {s : State} (h : s.Inv) (hp : s.fsm.producing = true) :
    nodeCount s.leaves s.curLevel.toNat = 2 ^ (roundsOf s.leaves - s.curLevel.toNat) := by
  have hlt := h.curLevel_lt hp
  obtain ⟨-, -, -, -, -, -, hcheck, -⟩ := h
  conv_lhs => rw [← two_pow_log2_leaves_of_check (hcheck hp)]
  rw [nodeCount_two_pow hlt, roundsOf]

/-- The steps left while levels are produced: those of the levels above the current one, and what is left of it. -/
theorem State.Inv.stepsLeft_of_producing {s : State} (h : s.Inv) (hp : s.fsm.producing = true) :
    s.stepsLeft = levelsLength s.cfg.lanes (roundsOf s.leaves - s.curLevel.toNat) +
      if s.dispatched then 1 + (s.lanes.map Lane.stepsLeft).sum
      else 2 + s.cfg.lanes + 8 * nodeCount s.leaves s.curLevel.toNat := by
  have hne : s.fsm ≠ .leafLevel := fun hf => by rw [hf] at hp; cases hp
  rw [State.stepsLeft, if_neg hne, if_pos hp, levelsLength, h.nodeCount_curLevel hp]

/-- At the entry to a level its own steps and those of the levels above are left. -/
theorem State.Inv.stepsLeft_of_entered {s : State} (h : s.Inv) (hp : s.fsm.producing = true)
    (hd : s.dispatched = false) :
    s.stepsLeft = levelsLength s.cfg.lanes (Nat.log2 s.leaves - s.curLevel.toNat) := by
  have hlt := h.curLevel_lt hp
  have hk : Nat.log2 s.leaves - s.curLevel.toNat = roundsOf s.leaves - s.curLevel.toNat + 1 := by
    rw [roundsOf]
    omega
  rw [h.stepsLeft_of_producing hp, hd, hk, levelsLength_succ, h.nodeCount_curLevel hp]
  rfl

theorem State.stepsLeft_of_not_busy {s : State} (hb : s.busy = false) : s.stepsLeft = 0 := by
  have hne : s.fsm ≠ .leafLevel := fun hf => by rw [State.busy, hf] at hb; cases hb
  rw [State.stepsLeft, if_neg hne, State.not_producing_of_not_busy hb]
  rfl

/-! ### The steps of a run (R250) -/

theorem State.Inv.stepsLeft_orcCheck {s : State} (h : s.Inv) (he : enabled .orcCheck s = true) :
    ∃ t, exec .orcCheck s = .next t ∧ t.stepsLeft + 1 = s.stepsLeft := by
  have hf : s.fsm = .leafLevel := by simpa [enabled, State.checkReady] using he
  by_cases hc : s.check = .none
  · have hpass := h.checkPassed hf hc
    have hp : s.checkPassed.fsm.producing = true := by
      rw [State.checkPassed_fsm]
      split <;> rfl
    refine ⟨s.checkPassed, by simp [exec, execOrcCheck, State.checkReady, hf, hc], ?_⟩
    rw [hpass.stepsLeft_of_entered hp rfl, State.stepsLeft, if_pos hf, if_pos hc, ← two_pow_log2_leaves_of_check hc,
      runLength_two_pow, Nat.add_comm]
    rfl
  · refine ⟨s.raiseError s.check, by simp [exec, execOrcCheck, State.checkReady, hf, hc], ?_⟩
    rw [State.stepsLeft_of_not_busy (s := s.raiseError s.check) rfl, State.stepsLeft, if_pos hf, if_neg hc]

theorem State.Inv.stepsLeft_orcDispatch {s : State} (h : s.Inv) (he : enabled .orcDispatch s = true) :
    ∃ t, exec .orcDispatch s = .next t ∧ t.stepsLeft + 1 = s.stepsLeft := by
  have hready : s.dispatchReady = true := he
  obtain ⟨hp, hd⟩ : s.fsm.producing = true ∧ s.dispatched = false := by simpa [State.dispatchReady] using hready
  refine ⟨s.allCommanded, if_pos hready, ?_⟩
  have hsum := h.sum_stepsLeft_commandLane hd
  rw [(h.allCommanded hp hd).stepsLeft_of_producing hp, h.stepsLeft_of_producing hp, hd]
  change levelsLength _ _ + (1 + ((s.lanes.mapIdx s.commandLane).map Lane.stepsLeft).sum) + 1 = levelsLength _ _ + _
  rw [hsum]
  change levelsLength s.cfg.lanes (roundsOf s.leaves - s.curLevel.toNat) + _ + 1 = _
  simp only [Bool.false_eq_true, if_false]
  omega

/-- A join leaves the steps of the levels above. -/
theorem State.Inv.stepsLeft_joined {s : State} (h : s.Inv) (hp : s.fsm.producing = true)
    (hdone : ∀ l ∈ s.lanes, l.done = true) :
    s.joined.stepsLeft = levelsLength s.cfg.lanes (roundsOf s.leaves - s.curLevel.toNat) := by
  have hinv := h.joined hp hdone
  have hrounds (hc : s.check = .none) := h.roundsOf_lt hc
  have hlt := h.curLevel_lt hp
  obtain ⟨-, -, -, -, -, -, hcheck, hinternal, hroot, -⟩ := h
  have hsmall := hrounds (hcheck hp)
  have hfsm : s.joined.fsm = s.nextLevel.1 := rfl
  have hcur : s.joined.curLevel = s.nextLevel.2 := rfl
  rcases State.nextLevel_cases hp with ⟨-, hnext, heq⟩ | ⟨hf, hlast, heq⟩ | ⟨hf, heq⟩ <;> rw [heq] at hfsm hcur
  · rw [hinv.stepsLeft_of_entered (by rw [hfsm]; rfl) rfl, hcur, BitVec.toNat_add_of_lt (by simp; omega)]
    change levelsLength _ (Nat.log2 s.leaves - (s.curLevel.toNat + 1)) = _
    congr 1
    rw [roundsOf]
    omega
  · have hle := hinternal hf
    rw [hinv.stepsLeft_of_entered (by rw [hfsm]; rfl) rfl, hcur, BitVec.toNat_ofNat, Nat.mod_eq_of_lt hsmall]
    change levelsLength _ (Nat.log2 s.leaves - roundsOf s.leaves) = _
    congr 1
    rw [roundsOf] at hle hlast ⊢
    omega
  · rw [State.stepsLeft_of_not_busy (by rw [State.busy, hfsm]; rfl), hroot hf, Nat.sub_self]
    simp [levelsLength]

theorem State.Inv.stepsLeft_orcJoin {s : State} (h : s.Inv) (he : enabled .orcJoin s = true) :
    ∃ t, exec .orcJoin s = .next t ∧ t.stepsLeft + 1 = s.stepsLeft := by
  have hready : s.joinReady = true := he
  obtain ⟨⟨hp, hd⟩, hdone⟩ : (s.fsm.producing = true ∧ s.dispatched = true) ∧ ∀ l ∈ s.lanes, l.done = true := by
    simpa [State.joinReady] using hready
  refine ⟨s.joined, if_pos hready, ?_⟩
  have hsum : (s.lanes.map Lane.stepsLeft).sum = 0 := by
    have hlanes := fun {k l} => h.lane_ok (i := k) (l := l)
    obtain ⟨-, -, -, -, hvalid, -⟩ := h
    refine List.sum_eq_zero fun n hn => ?_
    obtain ⟨l, hl, rfl⟩ := List.mem_map.mp hn
    obtain ⟨k, hk⟩ := List.getElem?_of_mem hl
    exact (hlanes hk).stepsLeft_of_done ((hvalid l hl).trans hd) (hdone l hl)
  rw [h.stepsLeft_joined hp hdone, h.stepsLeft_of_producing hp, hd, hsum]
  rfl

/-- Replacing one element of a list changes the sum by that element's share. -/
theorem sum_map_set {α : Type} (f : α → Nat) {xs : List α} {k : Nat} {x : α} (h : xs[k]? = some x) (y : α) :
    ((xs.set k y).map f).sum + f x = (xs.map f).sum + f y := by
  induction xs generalizing k with
  | nil => cases h
  | cons z rest ih =>
    cases k with
    | zero =>
      cases h
      simp only [List.set_cons_zero, List.map_cons, List.sum_cons]
      omega
    | succ k =>
      have hrest := ih (k := k) h
      simp only [List.set_cons_succ, List.map_cons, List.sum_cons]
      omega

/-- A step of a lane leaves the levels above and the other lanes as they are. -/
theorem State.Inv.stepsLeft_turned {i : Instr} {lane : BitVec 8} {s : State} {l : Lane} (h : s.Inv)
    (hi : i.lane? = some lane) (hl : s.lanes[lane.toNat]? = some l) (he : enabled i s = true) :
    (s.turned i lane.toNat l).stepsLeft + 1 = s.stepsLeft := by
  have hok := h.lane_ok hl
  have hready : l.ready s.cfg = true := by
    rw [← State.any_enabled_laneSteps hl]
    exact List.any_eq_true.mpr ⟨i, mem_laneSteps hi, he⟩
  have hc := h.commands hl (hok.cmdValid_of_ready hready)
  have hlane := State.stepsLeft_laneAfter hok hi hl he
  have hsum := sum_map_set Lane.stepsLeft hl (s.laneAfter i lane.toNat l)
  have hinv := exec_keeps_inv h (h.exec_eq_turned hi hl)
  have hd : (s.turned i lane.toNat l).dispatched = true := hc.dispatched
  rw [hinv.stepsLeft_of_producing hc.producing, h.stepsLeft_of_producing hc.producing, hd, hc.dispatched, if_pos rfl,
    if_pos rfl, State.turned_lanes]
  change levelsLength s.cfg.lanes (roundsOf s.leaves - s.curLevel.toNat) + _ + 1 = _
  omega

/-- Each enabled step of a block agent uses up exactly one of the run's steps. -/
theorem State.Inv.exec_stepsLeft {i : Instr} {s : State} (h : s.Inv) (hi : i.isBlock = true) (he : enabled i s = true) :
    ∃ t, exec i s = .next t ∧ t.stepsLeft + 1 = s.stepsLeft := by
  rcases Instr.block_cases hi with rfl | rfl | rfl | ⟨lane, hlane⟩
  · exact h.stepsLeft_orcCheck he
  · exact h.stepsLeft_orcDispatch he
  · exact h.stepsLeft_orcJoin he
  · obtain ⟨ready, -, hen, -⟩ := exec_eq_laneStep hlane s
    obtain ⟨l, hl, -⟩ := (Option.any_eq_true _ _).mp (hen.symm.trans he)
    exact ⟨_, h.exec_eq_turned hlane hl, h.stepsLeft_turned hlane hl he⟩

end Sys2Proof.Machine
end

section
/-! What a run computes (spec/42_addressing.md R189, spec/43_orchestrator.md R223): in every state of a run the lanes carry the
pairs of the tree and their digests, and every Node written so far is the tree's. -/

namespace Sys2Proof.Machine

/-! ### The entries of a channel -/

/-- The entries of a channel are the values of `f` at consecutive numbers, of which the head's is the first. -/
def Queued {α : Type} (f : Nat → α) : Nat → List α → Prop
  | _, [] => True
  | k, v :: rest => v = f k ∧ Queued f (k + 1) rest

theorem Queued.concat {α : Type} {f : Nat → α} {k : Nat} {ch : List α} (h : Queued f k ch) {v : α}
    (hv : v = f (k + ch.length)) : Queued f k (ch ++ [v]) := by
  induction ch generalizing k with
  | nil => exact ⟨hv, trivial⟩
  | cons x rest ih =>
    obtain ⟨hx, hrest⟩ := h
    refine ⟨hx, ih hrest ?_⟩
    rw [hv, List.length_cons]
    congr 1
    omega

/-! ### What a lane carries -/

/-- The lane's buffers and channels hold what its place in the level says: of the pairs `P 0`, `P 1`, … of its command, the
oldest in flight is the one that the consumer counts next, the youngest the one that the producer counts next (R54 c). -/
structure Lane.Carries (P : Nat → SiblingPair) (l : Lane) : Prop where
  pb : l.prdPhase = .pad → l.buf.pb = P l.prdK.toNat
  bb : l.prdPhase = .send → l.buf.bb = pad (P l.prdK.toNat)
  req : Queued (fun k => pad (P k)) (l.cnsK.toNat + l.cnsPhase.held + l.rsp.length + l.engPhase.held) l.req
  eb : l.engPhase = .compute → l.buf.eb = pad (P (l.cnsK.toNat + l.cnsPhase.held + l.rsp.length))
  ed : l.engPhase = .out → l.buf.ed = hashPair (P (l.cnsK.toNat + l.cnsPhase.held + l.rsp.length))
  rsp : Queued (fun k => hashPair (P k)) (l.cnsK.toNat + l.cnsPhase.held) l.rsp
  db : l.cnsPhase = .write → l.buf.db = hashPair (P l.cnsK.toNat)

section
variable {P : Nat → SiblingPair} {l : Lane}

theorem Lane.Carries.pairRead (h : l.Carries P) {p : SiblingPair} (hp : p = P l.prdK.toNat) : (l.pairRead p).Carries P :=
  ⟨fun _ => hp, nofun, h.req, h.eb, h.ed, h.rsp, h.db⟩

theorem Lane.Carries.padded (h : l.Carries P) (hpad : l.prdPhase = .pad) : l.padded.Carries P := by
  have hbb : l.padded.buf.bb = pad (P l.prdK.toNat) := by rw [Lane.padded_bb, h.pb hpad]
  exact ⟨nofun, fun _ => hbb, h.req, by simpa using h.eb, by simpa using h.ed, h.rsp, by simpa using h.db⟩

theorem Lane.Carries.blockSent (h : l.Carries P) (hsend : l.prdPhase = .send)
    (hsent : l.prdK.toNat = l.cnsK.toNat + l.inFlight) : l.blockSent.Carries P := by
  refine ⟨nofun, nofun, h.req.concat ?_, h.eb, h.ed, h.rsp, h.db⟩
  rw [h.bb hsend, hsent, Lane.inFlight_eq]
  congr 2
  omega

theorem Lane.Carries.blockTaken (h : l.Carries P) {b : PaddedBlock} {rest : List PaddedBlock} (hidle : l.engPhase = .idle)
    (hreq : l.req = b :: rest) : (l.blockTaken b rest).Carries P := by
  have hq := h.req
  rw [hreq, hidle] at hq
  obtain ⟨hb, hrest⟩ := hq
  exact ⟨h.pb, h.bb, hrest, fun _ => hb, nofun, h.rsp, h.db⟩

theorem Lane.Carries.compressed (h : l.Carries P) (hcomp : l.engPhase = .compute) : l.compressed.Carries P := by
  have hq := h.req
  rw [hcomp] at hq
  have hed : l.compressed.buf.ed = compress (pad (P (l.cnsK.toNat + l.cnsPhase.held + l.rsp.length))) := by
    rw [Lane.compressed_ed, h.eb hcomp]
  exact ⟨by simpa using h.pb, by simpa using h.bb, hq, nofun, fun _ => hed, h.rsp, by simpa using h.db⟩

theorem Lane.Carries.digestSent (h : l.Carries P) (hout : l.engPhase = .out) : l.digestSent.Carries P := by
  have hq := h.req
  rw [hout] at hq
  refine ⟨h.pb, h.bb, ?_, nofun, nofun, h.rsp.concat (h.ed hout), h.db⟩
  simpa [EngPhase.held, Nat.add_assoc] using hq

theorem Lane.Carries.digestTaken (h : l.Carries P) {d : Digest} {rest : List Digest} (hrecv : l.cnsPhase = .recv)
    (hrsp : l.rsp = d :: rest) : (l.digestTaken d rest).Carries P := by
  obtain ⟨hpb, hbb, hreq, heb, hed, hq, -⟩ := h
  simp only [hrecv, hrsp, CnsPhase.held, List.length_cons, Nat.add_zero] at hreq heb hed hq
  obtain ⟨hd, hrest⟩ := hq
  have hplace : l.cnsK.toNat + 1 + rest.length = l.cnsK.toNat + (rest.length + 1) := by omega
  rw [← hplace] at hreq heb hed
  exact ⟨hpb, hbb, hreq, heb, hed, hrest, fun _ => hd⟩

theorem Lane.Carries.nodeWritten (h : l.Carries P) (hwrite : l.cnsPhase = .write)
    (hk : l.cnsK.toNat < l.cmdCount.toNat) : l.nodeWritten.Carries P := by
  obtain ⟨hpb, hbb, hreq, heb, hed, hrsp, -⟩ := h
  simp only [hwrite, CnsPhase.held] at hreq heb hed hrsp
  rw [← toNat_add_one_of_lt hk] at hreq heb hed hrsp
  exact ⟨hpb, hbb, hreq, heb, hed, hrsp, nofun⟩

theorem Lane.Carries.committed (h : l.Carries P) : l.committed.Carries P :=
  ⟨h.pb, h.bb, h.req, h.eb, h.ed, h.rsp, h.db⟩

/-- A lane that has just been given its command carries nothing. -/
theorem Lane.carries_commandLane (s : State) (i : Nat) (h : l.holdsNothing = true) : (s.commandLane i l).Carries P := by
  simp only [Lane.holdsNothing, Bool.and_eq_true, List.isEmpty_iff, beq_iff_eq] at h
  obtain ⟨⟨⟨⟨hreq, hrsp⟩, heng⟩, -⟩, -⟩ := h
  refine ⟨nofun, nofun, ?_, ?_, ?_, ?_, nofun⟩ <;> simp [Queued, hreq, hrsp, heng]

theorem Lane.Carries.ite {m : Lane} {b : Bool} (h : l.Carries P) (hm : b = true → m.Carries P) :
    (if b then m else l).Carries P := by
  split
  · exact hm ‹_›
  · exact h

/-- A turn of a lane carries on what the lane carries, if the pair it reads is the next of its command. -/
theorem Lane.Carries.laneAfter {s : State} {i : Instr} {k : Nat} (h : l.Carries P) (hok : Lane.Ok s.cfg l)
    (hread : l.readReady = true →
      Memory.readWords (s.memOf (s.readSource k l).1) (s.readSource k l).2 16 = P l.prdK.toNat) :
    (s.laneAfter i k l).Carries P := by
  cases i with
  | prdRead => exact h.ite fun hr => h.pairRead (hread hr)
  | prdPad => exact h.ite fun hr => h.padded (Lane.padReady_iff.mp hr)
  | prdSend =>
    refine h.ite fun hr => ?_
    obtain ⟨hsend, hroom⟩ := Lane.sendReady_iff.mp hr
    have hv := (Lane.Moves.blockSent hsend hroom).cmdValid hok
    obtain ⟨⟨hsent, -⟩, -⟩ := (Lane.ok_iff_of_command hv).mp hok
    exact h.blockSent hsend hsent
  | engRecv =>
    refine h.ite fun hr => ?_
    obtain ⟨hidle, hne⟩ := Lane.engRecvReady_iff.mp hr
    obtain ⟨b, rest, hreq⟩ := List.exists_cons_of_ne_nil hne
    exact h.blockTaken hidle (by rw [hreq]; rfl)
  | engCompress => exact h.ite fun hr => h.compressed (Lane.compressReady_iff.mp hr)
  | engSend => exact h.ite fun hr => h.digestSent (Lane.engSendReady_iff.mp hr).1
  | cnsRecv =>
    refine h.ite fun hr => ?_
    obtain ⟨-, hrecv, -, hne⟩ := Lane.recvReady_iff.mp hr
    obtain ⟨d, rest, hrsp⟩ := List.exists_cons_of_ne_nil hne
    exact h.digestTaken hrecv (by rw [hrsp]; rfl)
  | cnsWrite =>
    refine h.ite fun hr => ?_
    have hwrite := Lane.writeReady_iff.mp hr
    exact h.nodeWritten hwrite (hok.cnsK_lt_of_write hwrite).2
  | cnsDone => exact h.ite fun _ => h.committed
  | _ => exact h
end

/-! ### The pairs of the tree -/

/-- Pair `j` of level `r` of the tree over the leaves of a memory (R184, R189). -/
def treePair (leaf : Memory) (r j : Nat) : SiblingPair := treeNode leaf r (2 * j) ++ treeNode leaf r (2 * j + 1)

theorem treeNode_succ (leaf : Memory) (r j : Nat) : treeNode leaf (r + 1) j = hashPair (treePair leaf r j) := rfl

theorem Memory.nodeAt_getElem {m : Memory} {a w : Nat} (h : w < 8) : (Memory.nodeAt m a)[w] = Memory.read m (a + w) :=
  Memory.readWords_getElem h

/-- The 16 words of a pair are two Nodes side by side. -/
theorem Memory.readWords_pair (m : Memory) (a : Nat) :
    Memory.readWords m a 16 = Memory.nodeAt m a ++ Memory.nodeAt m (a + 8) := by
  apply Vector.ext
  intro w hw
  rw [Memory.readWords_getElem hw, Vector.getElem_append]
  split
  · rw [Memory.nodeAt_getElem]
  · rw [Memory.nodeAt_getElem]
    congr 1
    omega

/-! ### The run's record of Nodes -/

/-- A state of a run over the `2^K` leaves of `leaf` in which the offsets `ws` have been written: the Nodes written are the
tree's, and each lane carries the pairs of its command. -/
structure TreeRecord (K : Nat) (leaf : Memory) (ws : List Nat) (s : State) : Prop where
  run : RunRecord K ws s
  leafMem : s.leafMem = leaf
  nodes : ∀ r j, r < K → j < nodeCount (2 ^ K) r → nodeAddr (2 ^ K) r j ∈ ws →
    Memory.nodeAt s.nodeMem (nodeAddr (2 ^ K) r j) = treeNode leaf (r + 1) j
  lanes : s.dispatched = true → ∀ (i : Nat) (l : Lane), s.lanes[i]? = some l →
    l.Carries fun k => treePair leaf s.curLevel.toNat (pairIndex s.cfg.lanes i k)

/-- At START nothing is written and no command is out. -/
theorem TreeRecord.start {s : State} (hinv : s.Inv) (hf : s.fsm = .leafLevel) (hc : s.check = .none) :
    TreeRecord (Nat.log2 s.leaves) s.leafMem [] s where
  run := RunRecord.start hinv hf hc
  leafMem := rfl
  nodes _ _ _ _ hmem := nomatch hmem
  lanes hd := by
    have hp : s.fsm.producing = false := by rw [hf]; rfl
    cases hd.symm.trans (hinv.no_command hp).1

section
variable {K : Nat} {leaf : Memory} {ws : List Nat} {s t : State}

/-- A Node that the run has written is one of the offsets of its record. -/
theorem RunRecord.mem_of_nodeWritten {r j : Nat} (h : RunRecord K ws s) (hr : r < K) (hj : j < nodeCount (2 ^ K) r)
    (hw : s.nodeWritten r j) : nodeAddr (2 ^ K) r j ∈ ws :=
  (h.mem_iff _).mpr ⟨r, j, hr, hj, hw, rfl⟩

/-- What PRD_READ reads is the pair of the tree: leaves at level 0, and above it Nodes that the run has written (R100,
R184). -/
theorem TreeRecord.readWords_eq {i : Nat} {l : Lane} (h : TreeRecord K leaf ws s) (hl : s.lanes[i]? = some l)
    (hr : l.readReady = true) :
    Memory.readWords (s.memOf (s.readSource i l).1) (s.readSource i l).2 16 =
      treePair leaf s.curLevel.toNat (pairIndex s.cfg.lanes i l.prdK.toNat) := by
  obtain ⟨hc, hj⟩ := h.run.inv.of_read hl hr
  obtain ⟨-, hleaves, -⟩ := h.run.of_producing hc.producing
  have hlt := hc.level_lt
  rw [hleaves] at hj hlt
  rw [Nat.log2_two_pow] at hlt
  rw [State.readSource, hc.level, hleaves, Memory.readWords_pair, treePair]
  cases hlevel : s.curLevel.toNat with
  | zero =>
    simp only [pairSrc, State.memOf, h.leafMem, treeNode, leafAddr]
    congr 2 <;> omega
  | succ q =>
    rw [hlevel] at hj hlt
    have hhalf := nodeCount_eq_two_mul hlt
    have hnode (n : Nat) (hn : n < nodeCount (2 ^ K) q) :
        Memory.nodeAt s.nodeMem (nodeAddr (2 ^ K) q n) = treeNode leaf (q + 1) n := by
      refine h.nodes q n (by omega) hn (h.run.mem_of_nodeWritten (by omega) hn ?_)
      exact (State.nodeWritten_of_producing hc.producing q n).mpr (.inl (by omega))
    rw [← hnode _ (show 2 * pairIndex s.cfg.lanes i l.prdK.toNat < _ by omega),
      ← hnode _ (show 2 * pairIndex s.cfg.lanes i l.prdK.toNat + 1 < _ by omega)]
    simp only [pairSrc, State.memOf, nodeAddr]
    congr 2 <;> omega

/-- An instruction that writes no offset leaves NodeMem as it was. -/
theorem exec_nodeMem_of_writeOffset_none {i : Instr} (hnone : writeOffset? i s = none) (h : exec i s = .next t) :
    t.nodeMem = s.nodeMem := by
  obtain ⟨-, -, hframe, -⟩ := exec_frame h
  by_cases hw : ∃ lane, i = .cnsWrite lane
  · obtain ⟨lane, rfl⟩ := hw
    obtain ⟨l, hl, rfl⟩ := exec_next_turned rfl h
    rcases writeOffset?_cases (.cnsWrite lane) s with ⟨-, hno⟩ | ⟨_, _, -, -, -, hsome⟩
    · rw [State.turned_nodeMem, hno lane l rfl hl]
      rfl
    · cases hnone.symm.trans hsome
  · exact hframe fun lane heq => hw ⟨lane, heq⟩

/-- A CNS_WRITE leaves every other Node as it was. -/
theorem State.Inv.nodeAt_turned_cnsWrite {k n : Nat} {lane : BitVec 8} {l : Lane} (h : s.Inv)
    (hl : s.lanes[k]? = some l) (hw : l.cnsPhase = .write) (hne : 8 * n ≠ s.writeTarget k l) :
    Memory.nodeAt (s.turned (.cnsWrite lane) k l).nodeMem (8 * n) = Memory.nodeAt s.nodeMem (8 * n) := by
  obtain ⟨hc, -⟩ := h.of_write hl hw
  rw [hc.writeTarget_eq, nodeAddr_eq] at hne
  apply Vector.ext
  intro w hw8
  rw [Memory.nodeAt_getElem hw8, Memory.nodeAt_getElem hw8]
  refine h.read_turned_nodeMem fun _ => ?_
  rw [hc.writeTarget_eq, nodeAddr_eq]
  omega

/-- A CNS_WRITE stores DB. -/
theorem State.Inv.nodeAt_turned_target {k : Nat} {lane : BitVec 8} {l : Lane} (h : s.Inv) (hw : l.cnsPhase = .write) :
    Memory.nodeAt (s.turned (.cnsWrite lane) k l).nodeMem (s.writeTarget k l) = l.buf.db := by
  obtain ⟨-, -, ⟨-, hwf, -⟩, -⟩ := h
  have hstored : l.stored (.cnsWrite lane) = l.buf.db.toList := if_pos (Lane.writeReady_iff.mpr hw)
  apply Vector.ext
  intro w hw8
  rw [Memory.nodeAt_getElem hw8, State.turned_nodeMem, hstored, Memory.read_writeWords_inside hwf (by simp; omega)]
  simp

/-- The Nodes of the record stay the tree's: a step writes none, or the one whose digest the lane carries in DB. -/
theorem TreeRecord.nodes_step {i : Instr} (h : TreeRecord K leaf ws s)
    (hrun : RunRecord K (ws ++ (writeOffset? i s).toList) t) (hexec : exec i s = .next t) :
    ∀ r j, r < K → j < nodeCount (2 ^ K) r → nodeAddr (2 ^ K) r j ∈ ws ++ (writeOffset? i s).toList →
      Memory.nodeAt t.nodeMem (nodeAddr (2 ^ K) r j) = treeNode leaf (r + 1) j := by
  intro r j hr hj hmem
  rcases writeOffset?_cases i s with ⟨hnone, -⟩ | ⟨lane, l, rfl, hl, hw, hoff⟩
  · rw [hnone, Option.toList_none, List.append_nil] at hmem
    rw [exec_nodeMem_of_writeOffset_none hnone hexec]
    exact h.nodes r j hr hj hmem
  · obtain ⟨m, hm, rfl⟩ := exec_next_turned rfl hexec
    cases hl.symm.trans hm
    obtain ⟨hc, hpair⟩ := h.run.inv.of_write hl hw
    obtain ⟨-, hleaves, -⟩ := h.run.of_producing hc.producing
    have hlt := hc.level_lt
    have htarget := hc.writeTarget_eq
    rw [hleaves] at hpair htarget hlt
    rw [Nat.log2_two_pow] at hlt
    rw [hoff, Option.toList_some, List.mem_append, List.mem_singleton] at hmem
    by_cases hnew : nodeAddr (2 ^ K) r j = s.writeTarget lane.toNat l
    · obtain ⟨rfl, rfl⟩ := nodeAddr_injective hr hlt hj hpair (hnew.trans htarget)
      rw [hnew, h.run.inv.nodeAt_turned_target hw, treeNode_succ]
      exact (h.lanes hc.dispatched _ l hl).db hw
    · rw [← h.nodes r j hr hj (hmem.resolve_right hnew)]
      rw [nodeAddr_eq] at hnew ⊢
      exact h.run.inv.nodeAt_turned_cnsWrite hl hw hnew

/-- The lanes go on to carry the pairs of their commands. -/
theorem TreeRecord.lanes_step {i : Instr} (h : TreeRecord K leaf ws s) (hexec : exec i s = .next t)
    (hd : t.dispatched = true) (k : Nat) (m : Lane) (hm : t.lanes[k]? = some m) :
    m.Carries fun n => treePair leaf t.curLevel.toNat (pairIndex t.cfg.lanes k n) := by
  rcases Instr.agent_cases i with hrd | hwr | rfl | rfl | rfl | rfl | ⟨lane, hlane⟩
  · obtain ⟨idx, heq⟩ := exec_of_hostRd hrd s
    cases heq.symm.trans hexec
    exact h.lanes hd k m hm
  · obtain ⟨idx, data, heq⟩ := exec_of_hostWr hwr s
    cases heq.symm.trans hexec
    rcases State.regWrite_cases s idx data with ⟨-, -, -, heq⟩ | ⟨-, -, heq⟩ | ⟨-, -, heq⟩ | ⟨-, -, heq⟩ | heq <;>
      rw [heq] at hd hm ⊢
    · cases hd
    all_goals exact h.lanes hd k m hm
  · cases hexec
    cases hd
  · rcases execOrcCheck_cases s with heq | ⟨-, -, heq⟩ | ⟨-, -, heq⟩ <;> cases heq.symm.trans hexec
    · exact h.lanes hd k m hm
    all_goals cases hd
  · rcases execOrcDispatch_cases s with heq | ⟨-, hnd, heq⟩ <;> cases heq.symm.trans hexec
    · exact h.lanes hd k m hm
    · rw [State.allCommanded, List.getElem?_mapIdx, Option.map_eq_some_iff] at hm
      obtain ⟨l, hl, rfl⟩ := hm
      obtain ⟨-, ⟨-, hlanes⟩, -, -, hvalid, -⟩ := h.run.inv
      have hmem := List.mem_of_getElem? hl
      exact Lane.carries_commandLane s k ((hlanes l hmem).1 ((hvalid l hmem).trans hnd)).1
  · rcases execOrcJoin_cases s with heq | ⟨-, -, heq⟩ <;> cases heq.symm.trans hexec
    · exact h.lanes hd k m hm
    · cases hd
  · obtain ⟨l, hl, rfl⟩ := exec_next_turned hlane hexec
    rw [State.turned_getElem? hl] at hm
    split at hm
    · rename_i hk
      subst hk
      cases hm
      exact (h.lanes hd _ l hl).laneAfter (h.run.inv.lane_ok hl) (h.readWords_eq hl)
    · exact h.lanes hd k m hm

/-- Every step of a run but START and RESET keeps the record of the tree. -/
theorem TreeRecord.step {i : Instr} (h : TreeRecord K leaf ws s) (hs : i.isStart = false) (hr : i ≠ .reset)
    (hexec : exec i s = .next t) : TreeRecord K leaf (ws ++ (writeOffset? i s).toList) t := by
  have hrun := h.run.step hs hr hexec
  obtain ⟨hleaf, -⟩ := exec_frame hexec
  exact ⟨hrun, hleaf.trans h.leafMem, h.nodes_step hrun hexec, h.lanes_step hexec⟩

/-- At DONE the whole tree is stored (R223). -/
theorem TreeRecord.treeStored (h : TreeRecord K leaf ws s) (hf : s.fsm = .done) : TreeStored leaf s.nodeMem (2 ^ K) := by
  intro r hr j hj
  rw [Nat.log2_two_pow] at hr
  exact h.nodes r j hr hj (h.run.mem_of_nodeWritten hr hj (.inl hf))
end

end Sys2Proof.Machine
end

section
/-! The Host's pseudo-operation `RUN L` (spec/30_encoding.md R128): its four writes start a run, and its polls go on until
the run is at DONE. From the record of the tree and the count of steps left, O60. -/

namespace Sys2Proof.Machine

/-! ### Accesses issued by the Host -/

/-- An access that the Host issues runs in the next step (R128). -/
theorem State.Inv.issue_eq {s : State} (h : s.Inv) (i : Instr) :
    issue i s = exec i (s.fetched i (encode i).data s.inputs) :=
  step_of_decoded_frame (s := { s with inputs := .frame (encode i) :: s.inputs }) (State.Inv.assertions h) rfl
    (decodeInvertsEncode i)

theorem issueAll_cons {i : Instr} {s t : State} (h : issue i s = .next t) (is : List Instr) :
    issueAll (i :: is) s = issueAll is t := by
  rw [issueAll, h]

/-- The state in which the registers say a run over `L` leaves (R128, R204). -/
def State.configured (s : State) (L : Nat) (hist : List Event) : State :=
  { s with
    leafCnt := BitVec.ofNat 32 L
    inWords := BitVec.ofNat 32 (8 * L)
    outWords := BitVec.ofNat 32 (8 * (L - 1))
    history := hist }

section
variable {s : State} (hb : s.busy = false) (data : Word)
include hb

theorem State.regWrite_leafCnt : s.regWrite 2#4 data = { s with leafCnt := data } := if_neg (by simp [hb])

theorem State.regWrite_inWords : s.regWrite 3#4 data = { s with inWords := data } := if_neg (by simp [hb])

theorem State.regWrite_outWords : s.regWrite 4#4 data = { s with outWords := data } := if_neg (by simp [hb])

theorem State.regWrite_start (hbit : data.getLsbD 0 = true) : s.regWrite 0#4 data = s.start :=
  if_pos (by rw [hbit, hb]; rfl)
end

/-- A write that the Host issues acts on the register of its index, and leaves its event. -/
theorem State.Inv.issue_write {s : State} (h : s.Inv) {i : Instr} {idx : BitVec 4} {data : Word} {t : List Event → State}
    (hi : ∀ u, exec i u = hostWrite idx data u) (ht : ∀ hist, { s with history := hist }.regWrite idx data = t hist) :
    ∃ hist, issue i s = .next (t hist) :=
  ⟨_, (h.issue_eq i).trans ((hi _).trans (congrArg Host.Outcome.next (ht _)))⟩

/-- The four writes of `RUN L` set the three registers and start a run. -/
theorem State.Inv.issueAll_runWrites {s : State} (h : s.Inv) (hb : s.busy = false) (L : Nat) :
    ∃ hist, issueAll (runWrites L) s = .next (s.configured L hist).start := by
  obtain ⟨hist₁, hleaf⟩ := h.issue_write (i := .wrLeafCnt (BitVec.ofNat 32 L)) (fun _ => rfl)
    fun _ => State.regWrite_leafCnt (by exact hb) _
  have hinv₁ : State.Inv { s with leafCnt := BitVec.ofNat 32 L, history := hist₁ } := h.withRegisters hb _ _ _
  obtain ⟨hist₂, hin⟩ := hinv₁.issue_write (i := .wrInWords (BitVec.ofNat 32 (8 * L))) (fun _ => rfl)
    fun _ => State.regWrite_inWords (by exact hb) _
  have hinv₂ : State.Inv { s with
      leafCnt := BitVec.ofNat 32 L, inWords := BitVec.ofNat 32 (8 * L), history := hist₂ } := h.withRegisters hb _ _ _
  obtain ⟨hist₃, hout⟩ := hinv₂.issue_write (i := .wrOutWords (BitVec.ofNat 32 (8 * (L - 1)))) (fun _ => rfl)
    fun _ => State.regWrite_outWords (by exact hb) _
  have hinv₃ : (s.configured L hist₃).Inv := h.withRegisters hb _ _ _
  obtain ⟨hist₄, hstart⟩ := hinv₃.issue_write (i := .wrCtrl 1#1) (fun _ => rfl)
    fun _ => State.regWrite_start (by exact hb) _ rfl
  exact ⟨hist₄, (issueAll_cons hleaf _).trans <| (issueAll_cons hin _).trans <| (issueAll_cons hout _).trans <|
    issueAll_cons hstart _⟩

/-- The configuration of `RUN 2^k` passes the check of a build of at least `2^k` leaves (R204). -/
theorem State.Inv.check_configured {s : State} (h : s.Inv) {k : Nat} (hk : 1 ≤ k) (hmax : k ≤ s.cfg.maxLog2Leaves)
    (hist : List Event) :
    (s.configured (2 ^ k) hist).start.check = .none ∧ (s.configured (2 ^ k) hist).start.leaves = 2 ^ k := by
  obtain ⟨hcfg, -⟩ := h
  simp only [Config.wf, Bool.and_eq_true, decide_eq_true_eq] at hcfg
  have hlow : 2 ^ 1 ≤ 2 ^ k := Nat.pow_le_pow_right (by omega) hk
  have hhigh : 2 ^ k ≤ 2 ^ 28 := Nat.pow_le_pow_right (by omega) (by omega)
  have htoNat (n : Nat) (hn : n < 2 ^ 32) : (BitVec.ofNat 32 n).toNat = n := by
    rw [BitVec.toNat_ofNat, Nat.mod_eq_of_lt hn]
  have hpow : 2 ^ k &&& (2 ^ k - 1) = 0 := by
    rw [Nat.and_sub_one_eq_zero_iff_isPowerOfTwo (by omega)]
    exact ⟨k, rfl⟩
  refine ⟨?_, htoNat _ (by omega)⟩
  change checkConfig s.cfg (BitVec.ofNat 32 (2 ^ k)).toNat (BitVec.ofNat 32 (8 * 2 ^ k)).toNat
    (BitVec.ofNat 32 (8 * (2 ^ k - 1))).toNat = .none
  rw [htoNat _ (by omega), htoNat _ (by omega), htoNat _ (by omega), checkConfig, Nat.log2_two_pow, if_neg (by omega),
    if_neg (by omega), if_neg (by omega), if_neg (by omega)]

/-! ### A poll of STATUS -/

/-- The state after a poll: STATUS returned to the Host, its event recorded (R128, R260). -/
def State.polled (s : State) : State :=
  { s.fetched .rdStatus (encode .rdStatus).data s.inputs with rdata := s.statusWord }

theorem State.Inv.issue_rdStatus {s : State} (h : s.Inv) : issue .rdStatus s = .next s.polled := h.issue_eq _

theorem State.polled_rdata_busy (s : State) : s.polled.rdata.getLsbD 0 = s.busy := s.statusWord_busy

theorem waitDone_of_not_busy {s : State} (h : s.Inv) (hb : s.busy = false) (n : Nat) :
    waitDone n s = .next s.polled := by
  rw [waitDone]
  simp only [h.issue_rdStatus, State.polled_rdata_busy, hb, Bool.false_eq_true, if_false]

theorem waitDone_succ_of_busy {s u : State} (h : s.Inv) (hb : s.busy = true) (hstep : step s.polled = .next u) (n : Nat) :
    waitDone (n + 1) s = waitDone n u := by
  rw [waitDone]
  simp only [h.issue_rdStatus, State.polled_rdata_busy, hb, if_true, hstep]

/-- A poll takes no part in the run. -/
theorem TreeRecord.polled {K : Nat} {leaf : Memory} {ws : List Nat} {s : State} (h : TreeRecord K leaf ws s) :
    TreeRecord K leaf ws s.polled where
  run := h.run.keep h.run.inv h.run.phase fun _ _ _ _ => Iff.rfl
  leafMem := h.leafMem
  nodes := h.nodes
  lanes := h.lanes

/-! ### The run between the polls -/

/-- A block step is no START and no RESET. -/
theorem Instr.isStart_of_isBlock {i : Instr} (h : i.isBlock = true) : i.isStart = false ∧ i ≠ .reset := by
  cases i <;> simp_all [Instr.isBlock, Instr.kind, StepKind.isBlock, Instr.isStart]

/-- A free turn of a busy block takes one of the run's steps and keeps its record. -/
theorem TreeRecord.freeTurn {K : Nat} {leaf : Memory} {ws : List Nat} {s : State} (h : TreeRecord K leaf ws s)
    (hin : s.inputs = []) (hb : s.busy = true) :
    ∃ ws' t, Machine.step s = .next t ∧ TreeRecord K leaf ws' t ∧ t.inputs = [] ∧ t.stepsLeft + 1 = s.stepsLeft := by
  obtain ⟨j, hj, hje⟩ := h.run.inv.exists_enabled hb
  obtain ⟨i, hi, hturn⟩ :=
    State.freeTurn_of_some_enabled (List.ne_nil_of_mem (State.mem_enabledSteps.mpr ⟨hj, hje⟩))
  obtain ⟨hblock, hen⟩ := State.mem_enabledSteps.mp hi
  have hblock := isBlock_of_mem_blockSteps hblock
  have hrec : TreeRecord K leaf ws { s with turn := s.turn + 1, history := eventAt i 0#32 s :: s.history } :=
    ⟨h.run.keep h.run.inv h.run.phase fun _ _ _ _ => Iff.rfl, h.leafMem, h.nodes, h.lanes⟩
  obtain ⟨t, hexec, hleft⟩ := hrec.run.inv.exec_stepsLeft hblock hen
  obtain ⟨hs, hr⟩ := Instr.isStart_of_isBlock hblock
  obtain ⟨-, -, -, hinputs, -⟩ := exec_frame hexec
  exact ⟨_, t, (step_of_no_input h.run.inv.assertions hin).trans (hturn.trans hexec), hrec.step hs hr hexec,
    hinputs.trans hin, hleft⟩

/-- A poll of a run that is not BUSY shows DONE, with the tree stored. -/
theorem TreeRecord.wait_ends_at_done {K : Nat} {leaf : Memory} {ws : List Nat} {s : State} (h : TreeRecord K leaf ws s)
    (hb : s.busy = false) (n : Nat) :
    ∃ t, waitDone n s = .next t ∧ t.rdata.getLsbD 0 = false ∧ t.rdata.getLsbD 1 = true ∧
      TreeStored leaf t.nodeMem (2 ^ K) := by
  have hf : s.fsm = .done := h.run.phase.resolve_right fun hrun => by cases hb.symm.trans hrun.1
  refine ⟨s.polled, waitDone_of_not_busy h.run.inv hb n, s.polled_rdata_busy.trans hb, ?_, h.treeStored hf⟩
  exact s.statusWord_isDone.trans (beq_iff_eq.mpr hf)

/-- `WAIT` polls until the run is at DONE: at most as often as the run has steps left. -/
theorem TreeRecord.wait_ends {K n : Nat} {leaf : Memory} {ws : List Nat} {s : State} (h : TreeRecord K leaf ws s)
    (hin : s.inputs = []) (hn : s.stepsLeft = n) :
    ∃ t, waitDone n s = .next t ∧ t.rdata.getLsbD 0 = false ∧ t.rdata.getLsbD 1 = true ∧
      TreeStored leaf t.nodeMem (2 ^ K) := by
  induction n generalizing s ws with
  | zero =>
    cases hb : s.busy with
    | false => exact h.wait_ends_at_done hb 0
    | true =>
      obtain ⟨_, t, -, -, -, hleft⟩ := h.freeTurn hin hb
      omega
  | succ n ih =>
    cases hb : s.busy with
    | false => exact h.wait_ends_at_done hb (n + 1)
    | true =>
      obtain ⟨_, u, hstep, hrec, hinputs, hleft⟩ := h.polled.freeTurn hin hb
      have hpoll : s.polled.stepsLeft = s.stepsLeft := rfl
      rw [waitDone_succ_of_busy h.run.inv hb hstep]
      exact ih hrec hinputs (by omega)

/-- Settles O60: the writes start a run that passes the check, and `WAIT` sees it to DONE, where the tree is stored. -/
theorem runPseudoOperationEndsDone : Obligations.RunPseudoOperationEndsDone := by
  intro s k hinv hb hin hk hmax
  obtain ⟨hist, hwrites⟩ := hinv.issueAll_runWrites hb (2 ^ k)
  obtain ⟨hcheck, hleaves⟩ := hinv.check_configured hk hmax hist
  have hstarted : (s.configured (2 ^ k) hist).start.Inv :=
    State.Inv.start (s := s.configured (2 ^ k) hist) (hinv.withRegisters hb _ _ _) hb
  have hrec := TreeRecord.start hstarted rfl hcheck
  rw [hleaves, Nat.log2_two_pow] at hrec
  obtain ⟨t, hwait, hbusy, hdone, htree⟩ := hrec.wait_ends hin rfl
  exact ⟨_, t, by rw [runLeaves, hwrites]; exact hwait, hbusy, hdone, htree⟩

end Sys2Proof.Machine
end

section
/-! Padding: the layout of a padded block, read off its two halves (spec/40_padding.md). -/

namespace Sys2Proof.Machine

/-! ### The two halves of a padded block -/

/-- R140: the first half of a padded block is the pair, verbatim. -/
theorem pad_getElem_of_lt (p : SiblingPair) {w : Nat} (h : w < 16) : (pad p)[w] = p[w] :=
  Vector.getElem_append_left h

/-- R141: the second half of a padded block is PADBLK; no word of the pair reaches it. -/
theorem pad_getElem_add (p : SiblingPair) {w : Nat} (h : w < 16) : (pad p)[16 + w] = padBlk[w] := by
  rw [pad, Vector.getElem_append_right (Nat.add_lt_add_left h 16) (Nat.le_add_right 16 w)]
  simp only [Nat.add_sub_cancel_left]

/-- R141: between its first and its last word PADBLK is zero. -/
theorem padBlk_getElem_of_inner : ∀ (w : Nat) (h : w < 15), 1 ≤ w → padBlk[w] = 0#32 := by decide

/-- Settles O6: words 0 to 15 are the pair, and word `16 + w` is word `w` of PADBLK. -/
theorem paddingLayout : Obligations.PaddingLayout := by
  intro p
  refine ⟨fun w h => pad_getElem_of_lt p h, ?first, ?inner, ?last⟩
  case first => exact pad_getElem_add p (w := 0) (by decide)
  case inner =>
    intro w hw hge
    obtain ⟨v, rfl⟩ : ∃ v, w = 16 + v := Nat.exists_eq_add_of_le (by omega)
    rw [pad_getElem_add p (by omega), padBlk_getElem_of_inner v (by omega) (by omega)]
  case last => exact pad_getElem_add p (w := 15) (by decide)

end Sys2Proof.Machine
end

section
/-! Compression: the primitive operations bit by bit, the message schedule and its recurrence, a block's rounds, and the
engine that rolls one schedule and stores the other (spec/41_compression.md): O7, O8, O9. -/

namespace Sys2Proof.Machine

/-! ### The primitive operations, bit by bit (R150 to R158) -/

/-- R150: for a legal distance `rotr` is the rotation of bit vectors, which loses no bit. -/
theorem rotr_eq_rotateRight (x : Word) {n : Nat} (hn : n < 32) : rotr x n = x.rotateRight n := by
  rw [rotr, BitVec.rotateRight_def, Nat.mod_eq_of_lt hn]

/-- R150: bit `k` of a rotation is bit `k + n` of the word, counted round its end. -/
theorem getLsbD_rotr (x : Word) {n k : Nat} (hn : n < 32) (hk : k < 32) :
    (rotr x n).getLsbD k = x.getLsbD ((k + n) % 32) := by
  rw [rotr_eq_rotateRight x hn, BitVec.getLsbD_rotateRight, Nat.mod_eq_of_lt hn]
  by_cases hwrap : k < 32 - n
  · rw [Nat.mod_eq_of_lt (by omega : k + n < 32), Nat.add_comm]
    simp [hwrap]
  · have hmod : (k + n) % 32 = k - (32 - n) := by omega
    simp [hwrap, hk, hmod]

/-- R151: bit `k` of a shift is bit `k + n` of the word, and 0 from bit `32 - n` on. -/
theorem getLsbD_shr (x : Word) (n k : Nat) : (shr x n).getLsbD k = x.getLsbD (k + n) := by
  rw [shr, BitVec.getLsbD_ushiftRight, Nat.add_comm]

/-- R150: no bit is set in a rotation of 0. -/
theorem rotr_zero (n : Nat) : rotr 0#32 n = 0#32 := by
  rw [rotr, BitVec.zero_ushiftRight, BitVec.zero_shiftLeft, BitVec.or_zero]

/-- R150: every bit is set in a rotation of the word of ones. -/
theorem rotr_allOnes {n : Nat} (hn : n < 32) : rotr (BitVec.allOnes 32) n = BitVec.allOnes 32 := by
  refine BitVec.eq_of_getLsbD_eq fun k hk => ?_
  rw [getLsbD_rotr _ hn hk, BitVec.getLsbD_allOnes, BitVec.getLsbD_allOnes,
    decide_eq_true hk, decide_eq_true (Nat.mod_lt _ (by decide))]

/-- R153: a bit of `x` chooses between `y`'s and `z`'s. -/
theorem getLsbD_shaCh (x y z : Word) {k : Nat} (hk : k < 32) :
    (shaCh x y z).getLsbD k = if x.getLsbD k then y.getLsbD k else z.getLsbD k := by
  rw [shaCh, BitVec.getLsbD_xor, BitVec.getLsbD_and, BitVec.getLsbD_and, BitVec.getLsbD_not, decide_eq_true hk]
  cases x.getLsbD k <;> simp

/-- The majority of three bits, as `Maj` makes it, is 1 where two of them are 1. -/
theorem xor_and_eq_majority : ∀ a b c : Bool,
    (((a && b) ^^ (a && c)) ^^ (b && c)) = decide (2 ≤ a.toNat + b.toNat + c.toNat) := by decide

/-- R154: `Maj` is the bitwise majority. -/
theorem getLsbD_shaMaj (x y z : Word) (k : Nat) :
    (shaMaj x y z).getLsbD k = decide (2 ≤ (x.getLsbD k).toNat + (y.getLsbD k).toNat + (z.getLsbD k).toNat) := by
  rw [← xor_and_eq_majority, shaMaj]
  simp only [BitVec.getLsbD_xor, BitVec.getLsbD_and]

/-- R155, R156: the exclusive or of three rotations, bit by bit. -/
theorem getLsbD_xor_three_rotr (x : Word) {i j n k : Nat} (hi : i < 32) (hj : j < 32) (hn : n < 32) (hk : k < 32) :
    (rotr x i ^^^ rotr x j ^^^ rotr x n).getLsbD k =
      (x.getLsbD ((k + i) % 32) ^^ x.getLsbD ((k + j) % 32) ^^ x.getLsbD ((k + n) % 32)) := by
  rw [BitVec.getLsbD_xor, BitVec.getLsbD_xor, getLsbD_rotr x hi hk, getLsbD_rotr x hj hk, getLsbD_rotr x hn hk]

/-- R157, R158: the exclusive or of two rotations and a shift, bit by bit. -/
theorem getLsbD_xor_two_rotr_shr (x : Word) {i j k : Nat} (n : Nat) (hi : i < 32) (hj : j < 32) (hk : k < 32) :
    (rotr x i ^^^ rotr x j ^^^ shr x n).getLsbD k =
      (x.getLsbD ((k + i) % 32) ^^ x.getLsbD ((k + j) % 32) ^^ x.getLsbD (k + n)) := by
  rw [BitVec.getLsbD_xor, BitVec.getLsbD_xor, getLsbD_rotr x hi hk, getLsbD_rotr x hj hk, getLsbD_shr]

/-- Settles O7: one lemma per operation; each sigma function is one of the two shapes of exclusive or. -/
theorem primitiveOperationsBitByBit : Obligations.PrimitiveOperationsBitByBit := by
  refine ⟨fun x n _ hn => ⟨rfl, fun k hk => ⟨getLsbD_rotr x hn hk, getLsbD_shr x n k⟩⟩,
    fun n _ hn => ⟨rotr_zero n, rotr_allOnes hn⟩, by decide, fun x y z k hk => ?_⟩
  refine ⟨getLsbD_shaCh x y z hk, getLsbD_shaMaj x y z k, ?bigSigma0, ?bigSigma1, ?smallSigma0, ?smallSigma1⟩
  case bigSigma0 => exact getLsbD_xor_three_rotr x (by decide) (by decide) (by decide) hk
  case bigSigma1 => exact getLsbD_xor_three_rotr x (by decide) (by decide) (by decide) hk
  case smallSigma0 => exact getLsbD_xor_two_rotr_shr x 3 (by decide) (by decide) hk
  case smallSigma1 => exact getLsbD_xor_two_rotr_shr x 10 (by decide) (by decide) hk

/-! ### The message schedule (R161) -/

/-- Extending the schedule leaves the words it has as they are. -/
theorem getElem_scheduleTo_add (m : MessageBlock) {n t : Nat} (h : t < 16 + n) :
    ∀ k, (scheduleTo m (n + k))[t] = (scheduleTo m n)[t]
  | 0 => rfl
  | k + 1 =>
    have hold : t < 16 + (n + k) := Nat.lt_of_lt_of_le h (Nat.add_le_add_left (Nat.le_add_right n k) 16)
    (Vector.getElem_push_lt hold).trans (getElem_scheduleTo_add m h k)

/-- Word `t` does not depend on how far the schedule is carried. -/
theorem getElem_scheduleTo_congr (m : MessageBlock) {j k t : Nat} (hj : t < 16 + j) (hk : t < 16 + k) :
    (scheduleTo m j)[t] = (scheduleTo m k)[t] := by
  rcases Nat.le_total j k with h | h
  · obtain ⟨d, rfl⟩ := Nat.exists_eq_add_of_le h
    exact (getElem_scheduleTo_add m hj d).symm
  · obtain ⟨d, rfl⟩ := Nat.exists_eq_add_of_le h
    exact getElem_scheduleTo_add m hk d

/-- R161's recurrence for the newest word: the four words it reads are those of the schedule before it. -/
theorem getElem_scheduleTo_succ_last (m : MessageBlock) (n : Nat) :
    (scheduleTo m (n + 1))[16 + n] =
      smallSigma1 (scheduleTo m n)[16 + n - 2] + (scheduleTo m n)[16 + n - 7] +
        smallSigma0 (scheduleTo m n)[16 + n - 15] + (scheduleTo m n)[16 + n - 16] :=
  Vector.getElem_push_eq ..

/-- R161 as a property of 64 words: the first 16 are the block's, and each later one is made of four before it. -/
def IsSchedule (m : MessageBlock) (w : Schedule) : Prop :=
  (∀ t (h : t < 16), w[t] = m[t]) ∧
  ∀ t (h : t < 64), 16 ≤ t → w[t] = smallSigma1 w[t - 2] + w[t - 7] + smallSigma0 w[t - 15] + w[t - 16]

/-- The model's schedule has R161's property. -/
theorem isSchedule_schedule (m : MessageBlock) : IsSchedule m (schedule m) := by
  refine ⟨fun t h => getElem_scheduleTo_congr m (k := 0) (by omega) h, fun t h hge => ?_⟩
  obtain ⟨n, rfl⟩ := Nat.exists_eq_add_of_le hge
  have hword : ∀ {j} (hj : j < 16 + n), (schedule m)[j] = (scheduleTo m n)[j] :=
    fun hj => getElem_scheduleTo_congr m (by omega) hj
  calc (schedule m)[16 + n] = (scheduleTo m (n + 1))[16 + n] := getElem_scheduleTo_congr m h (by omega)
    _ = _ := by
      rw [getElem_scheduleTo_succ_last, hword (by omega : 16 + n - 2 < 16 + n), hword (by omega : 16 + n - 7 < 16 + n),
        hword (by omega : 16 + n - 15 < 16 + n), hword (by omega : 16 + n - 16 < 16 + n)]

/-- R161's property determines the schedule: words that agree so far agree at the next one. -/
theorem IsSchedule.unique {m : MessageBlock} {v w : Schedule} (hv : IsSchedule m v) (hw : IsSchedule m w) : v = w := by
  obtain ⟨hvm, hvrec⟩ := hv
  obtain ⟨hwm, hwrec⟩ := hw
  have hagree : ∀ t (h : t < 64), v[t] = w[t] := by
    intro t
    induction t using Nat.strongRecOn with
    | ind t ih =>
      intro h
      by_cases hlt : t < 16
      · rw [hvm t hlt, hwm t hlt]
      · rw [hvrec t h (by omega), hwrec t h (by omega), ih (t - 2) (by omega), ih (t - 7) (by omega),
          ih (t - 15) (by omega), ih (t - 16) (by omega)]
  exact Vector.ext hagree

/-- R161's corner case: with all words 0 every sum of the recurrence is 0. -/
theorem isSchedule_zero : IsSchedule (Vector.replicate 16 0#32) (Vector.replicate 64 0#32) := by
  have hsum : smallSigma1 0#32 + 0#32 + smallSigma0 0#32 + 0#32 = 0#32 := by decide
  refine ⟨fun t h => ?_, fun t h _ => ?_⟩
  · rw [Vector.getElem_replicate, Vector.getElem_replicate]
  · simp only [Vector.getElem_replicate, hsum]

/-- CS1 (R169): the stored words begin with PADBLK and follow R161's recurrence. -/
theorem isSchedule_storedSchedule : IsSchedule padBlk storedSchedule := by
  unfold IsSchedule
  decide

/-- R169: the schedule of the constant second block is the stored one. -/
theorem schedule_padBlk : schedule padBlk = storedSchedule :=
  (isSchedule_schedule padBlk).unique isSchedule_storedSchedule

/-! ### Rounds and blocks (R162 to R166) -/

/-- The registers before round `n` of block `m` from chaining state `h`; from round 64 on, those after the last. -/
def regsBefore (h : Vector Word 8) (m : MessageBlock) (n : Nat) : WorkRegs :=
  shaRounds (schedule m) (loadRegs h) (min n 64) (Nat.min_le_right n 64)

/-- R163: round `t` reads the registers that the round before it left. -/
theorem regsBefore_succ (h : Vector Word 8) (m : MessageBlock) (t : Fin 64) :
    regsBefore h m (t.val + 1) = shaRound (schedule m) t (regsBefore h m t.val) := by
  have hmin : ∀ n (hn : n ≤ 64), regsBefore h m n = shaRounds (schedule m) (loadRegs h) n hn := by
    intro n hn
    simp only [regsBefore, Nat.min_eq_left hn]
  rw [hmin (t.val + 1) t.isLt, hmin t.val t.isLt.le, shaRounds]

/-- R165: the first block of `b` is the one whose words are words 0 to 15 of `b`. -/
theorem firstBlock_eq {b : PaddedBlock} {m : MessageBlock} (hm : ∀ t (h : t < 16), m[t] = b[t]) : firstBlock b = m :=
  Vector.ext fun t h => by rw [firstBlock, Vector.getElem_ofFn, hm t h]

/-- R165: the second block of `b` is the one whose words are words 16 to 31 of `b`. -/
theorem secondBlock_eq {b : PaddedBlock} {m : MessageBlock} (hm : ∀ t (h : t < 16), m[t] = b[16 + t]) :
    secondBlock b = m :=
  Vector.ext fun t h => by rw [secondBlock, Vector.getElem_ofFn, hm t h]

/-- Settles O8: the constants by evaluation, the schedule by R161's property, a block's registers by `regsBefore`. -/
theorem compressionRunsItsRounds : Obligations.CompressionRunsItsRounds := by
  refine ⟨by decide, by decide, isSchedule_schedule, (isSchedule_schedule _).unique isSchedule_zero, ?round,
    fun h m => ⟨regsBefore h m, rfl, regsBefore_succ h m, rfl⟩, ?compress, fun p => rfl⟩
  case round =>
    rintro w t r _ _ rfl rfl
    rfl
  case compress =>
    intro b m n hwords
    rw [compress, firstBlock_eq fun t h => (hwords t h).1, secondBlock_eq fun t h => (hwords t h).2]

/-! ### The engine with a rolling window and a stored schedule (R163, R169) -/

/-- The 16 schedule words from `W[n]` on, the schedule carried as far as they need. -/
def scheduleWindow (m : MessageBlock) (n : Nat) : Vector Word 16 :=
  Vector.ofFn fun i : Fin 16 => (scheduleTo m n)[n + i.val]

theorem getElem_scheduleWindow (m : MessageBlock) (n : Nat) {i : Nat} (h : i < 16) :
    (scheduleWindow m n)[i] = (scheduleTo m n)[n + i] := by
  rw [scheduleWindow, Vector.getElem_ofFn]

/-- Before round 0 the window is the block. -/
theorem scheduleWindow_zero (m : MessageBlock) : scheduleWindow m 0 = m :=
  Vector.ext fun i h => by simp only [getElem_scheduleWindow m 0 h, scheduleTo, Nat.zero_add]

/-- Rolling the window drops its oldest word and adds the next word of the schedule. -/
theorem rollWindow_scheduleWindow (m : MessageBlock) (n : Nat) :
    rollWindow (scheduleWindow m n) = scheduleWindow m (n + 1) := by
  refine Vector.ext fun i h => ?_
  rw [rollWindow, Vector.getElem_ofFn, getElem_scheduleWindow m (n + 1) h]
  by_cases hkept : i + 1 < 16
  · rw [dif_pos hkept, getElem_scheduleWindow m n hkept]
    calc (scheduleTo m n)[n + (i + 1)] = (scheduleTo m n)[n + 1 + i] := getElem_congr_idx (by omega)
      _ = (scheduleTo m (n + 1))[n + 1 + i] := getElem_scheduleTo_congr m (by omega) (by omega)
  · obtain rfl : i = 15 := by omega
    rw [dif_neg hkept]
    simp only [getElem_scheduleWindow m n (by decide : 14 < 16), getElem_scheduleWindow m n (by decide : 9 < 16),
      getElem_scheduleWindow m n (by decide : 1 < 16), getElem_scheduleWindow m n (by decide : 0 < 16)]
    calc
      _ = (scheduleTo m (n + 1))[16 + n] := by
        rw [getElem_scheduleTo_succ_last]
        congr <;> omega
      _ = (scheduleTo m (n + 1))[n + 1 + 15] := getElem_congr_idx (by omega)

/-- R163: with the window at `W[n]` the engine's rounds are the rounds on the whole schedule. -/
theorem rollingRounds_eq (m : MessageBlock) (r : WorkRegs) : ∀ (n : Nat) (h : n ≤ 64),
    rollingRounds m r n h = (scheduleWindow m n, shaRounds (schedule m) r n h)
  | 0, _ => by rw [rollingRounds, scheduleWindow_zero, shaRounds]
  | n + 1, h => by
    have hword : (scheduleWindow m n)[0] = (schedule m)[n] :=
      (getElem_scheduleWindow m n (by decide)).trans (getElem_scheduleTo_congr m (by omega) (by omega))
    rw [rollingRounds, rollingRounds_eq m r n (Nat.le_of_succ_le h), rollWindow_scheduleWindow, hword]
    rfl

/-- Settles O9: the first block's rolled rounds are its rounds, and the second block's schedule is the stored one. -/
theorem storedScheduleEngineAgrees : Obligations.StoredScheduleEngineAgrees := by
  intro p
  have hfirst : firstBlock (pad p) = p := firstBlock_eq fun t h => (pad_getElem_of_lt p h).symm
  have hsecond : secondBlock (pad p) = padBlk := secondBlock_eq fun t h => (pad_getElem_add p h).symm
  rw [hashPairStored, rollingRounds_eq, ← schedule_padBlk, hashPair, compress, hfirst, hsecond]
  rfl

end Sys2Proof.Machine
end

section
/-! The statements of spec/42_addressing.md: the lanes share a level's pairs, the level regions tile the tree's words of
NodeMem, every source word is one pair's (O11 to O15); and what a run leaves in those words at DONE (O57). -/

namespace Sys2Proof.Machine

/-! ### Runs keep what every step keeps -/

/-- What every step of a schedule keeps holds at its end. -/
theorem runSchedule_induction {p : State → Prop} {is : List Instr} {s t : State} (hs : p s)
    (hstep : ∀ i ∈ is, ∀ u v, p u → exec i u = .next v → p v) (hrun : runSchedule is s = .next t) : p t := by
  induction is generalizing s with
  | nil =>
    cases hrun
    exact hs
  | cons i rest ih =>
    obtain ⟨hi, hrest⟩ := List.forall_mem_cons.mp hstep
    unfold runSchedule at hrun
    cases hexec : exec i s with
    | next u =>
      rw [hexec] at hrun
      exact ih (hi s u hs hexec) hrest hrun
    | fault r => rw [hexec] at hrun; cases hrun
    | refused r => rw [hexec] at hrun; cases hrun

/-- Every state of a run from START with a passing check has a record of the tree over the leaves (R223). -/
theorem TreeRecord.of_run {is : List Instr} {s t : State} (hinv : s.Inv) (hf : s.fsm = .leafLevel)
    (hc : s.check = .none) (his : RunSchedule s.cfg is) (hrun : runSchedule is s = .next t) :
    ∃ ws, TreeRecord (Nat.log2 s.leaves) s.leafMem ws t := by
  refine runSchedule_induction (p := fun u => ∃ ws, TreeRecord (Nat.log2 s.leaves) s.leafMem ws u)
    ⟨[], TreeRecord.start hinv hf hc⟩ ?_ hrun
  rintro i hi u v ⟨ws, hrec⟩ hexec
  obtain ⟨-, hstart, hreset⟩ := his i hi
  exact ⟨_, hrec.step hstart hreset hexec⟩

/-- Settles O57: at DONE the record of the run's Nodes is the whole tree. -/
theorem runComputesTheTree : Obligations.RunComputesTheTree := by
  intro s t is hinv hf hc his hrun hdone
  obtain ⟨ws, hrec⟩ := TreeRecord.of_run hinv hf hc his hrun
  have htree := hrec.treeStored hdone
  rwa [two_pow_log2_leaves_of_check hc] at htree

/-! ### Striping (R186, R187) -/

/-- A lane has at least as many pairs as a later one (R186). -/
theorem lanePairs_antitone {P N i j : Nat} (hN : 0 < N) (hij : i ≤ j) : lanePairs P N j ≤ lanePairs P N i := by
  refine le_of_forall_lt fun k hk => ?_
  rw [lt_lanePairs_iff hN, pairIndex] at hk ⊢
  omega

/-- Before a lane's next pair every lane has had one, so that no lane is two pairs behind another (R186). -/
theorem lanePairs_le_succ {P N i j : Nat} (hj : j < N) : lanePairs P N i ≤ lanePairs P N j + 1 := by
  have hN := Nat.zero_lt_of_lt hj
  refine le_of_forall_lt fun k hk => ?_
  cases k with
  | zero => exact Nat.succ_pos _
  | succ k =>
    rw [lt_lanePairs_iff hN, pairIndex, Nat.succ_mul] at hk
    rw [Nat.add_lt_add_iff_right, lt_lanePairs_iff hN, pairIndex]
    omega

/-- Settles O11: the counts are read off the pairs that a lane has, and their sum is `sum_lanePairs`. -/
theorem laneCountsShareTheLevel : Obligations.LaneCountsShareTheLevel := by
  intro P N hN
  exact ⟨fun _ _ => lt_lanePairs_iff hN, sum_lanePairs P hN,
    fun _ _ hij hj => ⟨lanePairs_antitone hN hij, lanePairs_le_succ hj⟩, fun _ hi => if_pos hi⟩

/-- Settles O12: the lane and the local index of a pair are its remainder and its quotient by the lane count. -/
theorem everyPairHasOneLane : Obligations.EveryPairHasOneLane := by
  intro P N j hN hj
  refine ⟨(j % N, j / N), ⟨Nat.mod_lt j hN, ?_, pairIndex_mod_div N j⟩, ?_⟩
  · rw [lt_lanePairs_iff hN, pairIndex_mod_div]
    exact hj
  · rintro ⟨i, k⟩ ⟨hi, -, rfl⟩
    rw [pairIndex_mod hi, pairIndex_div hi]

/-! ### Level regions (R181, R188 a) -/

/-- A word lies in a level's region exactly if one of the level's Nodes has the word among its eight. -/
theorem mem_levelRegion_iff {L r a : Nat} :
    levelOff L r ≤ a ∧ a < levelOff L r + 8 * nodeCount L r ↔
      ∃ j < nodeCount L r, nodeAddr L r j = 8 * (a / 8) := by
  rw [levelOff]
  constructor
  · rintro ⟨hle, hlt⟩
    exact ⟨a / 8 - (nodeCount L r - 1), by omega, by rw [nodeAddr_eq]; omega⟩
  · rintro ⟨j, hj, heq⟩
    rw [nodeAddr_eq] at heq
    omega

/-- Every word of the tree lies in the region of exactly one level, because its Node's address is one Node's. -/
theorem existsUnique_level {K a : Nat} (ha : a < 8 * (2 ^ K - 1)) :
    ∃! r, r < K ∧ levelOff (2 ^ K) r ≤ a ∧ a < levelOff (2 ^ K) r + 8 * nodeCount (2 ^ K) r := by
  obtain ⟨r, j, hr, hj, heq⟩ := exists_nodeAddr_eq (K := K) (n := a / 8) (by omega)
  refine ⟨r, ⟨hr, mem_levelRegion_iff.mpr ⟨j, hj, heq⟩⟩, ?_⟩
  rintro q ⟨hq, hregion⟩
  obtain ⟨k, hk, heq'⟩ := mem_levelRegion_iff.mp hregion
  exact (nodeAddr_injective hq hr hk hj (heq'.trans heq.symm)).1

/-- Settles O13: a region ends where its last Node does, which lies in the tree. -/
theorem levelRegionsTileNodeMem : Obligations.LevelRegionsTileNodeMem := by
  refine fun K _ => ⟨fun a => existsUnique_level, fun r hr => ?_⟩
  have hpos := nodeCount_pos hr
  have hlast := nodeAddr_add_le hr (Nat.sub_lt hpos Nat.one_pos)
  rw [nodeAddr] at hlast
  omega

/-! ### The top level (R190) -/

theorem nodeCount_top {K : Nat} (hK : 1 ≤ K) : nodeCount (2 ^ K) (K - 1) = 1 := by
  rw [nodeCount_two_pow (Nat.sub_lt hK Nat.one_pos), Nat.sub_self, Nat.pow_zero]

/-- Settles O15: the top level has one Node, so that none stands before it. -/
theorem rootNodeAtOffsetZero : Obligations.RootNodeAtOffsetZero := by
  intro K hK
  constructor
  · rw [levelOff, nodeCount, Nat.sub_add_cancel hK]
  · rw [nodeAddr_eq, nodeCount_top hK]

/-! ### Sources (R184, R188 c, d) -/

/-- Every leaf word is a source of exactly one pair, of level 0 (R188 c). -/
theorem existsUnique_leaf_reader {K a : Nat} (hK : 1 ≤ K) (ha : a < 8 * 2 ^ K) :
    ∃! q : Nat × Nat, q.1 < K ∧ q.2 < nodeCount (2 ^ K) q.1 ∧ (pairSrc (2 ^ K) q.1 q.2).1 = .leaf ∧
      (pairSrc (2 ^ K) q.1 q.2).2 ≤ a ∧ a < (pairSrc (2 ^ K) q.1 q.2).2 + 16 := by
  have htwo := two_mul_nodeCount_zero hK
  refine ⟨(0, a / 16), ⟨hK, ?_, rfl, ?_⟩, ?_⟩
  · change a / 16 < nodeCount (2 ^ K) 0
    omega
  · change 16 * (a / 16) ≤ a ∧ a < 16 * (a / 16) + 16
    omega
  · rintro ⟨_ | r, j⟩ ⟨-, -, hsp, hwords⟩
    · change 16 * j ≤ a ∧ a < 16 * j + 16 at hwords
      exact Prod.ext rfl (show j = a / 16 by omega)
    · cases hsp

/-- Every Node word but the root's is a source of exactly one pair, of the level above the word's (R188 d). -/
theorem existsUnique_node_reader {K a : Nat} (hK : 1 ≤ K) (hroot : 8 ≤ a) (ha : a < 8 * (2 ^ K - 1)) :
    ∃! q : Nat × Nat, q.1 < K ∧ q.2 < nodeCount (2 ^ K) q.1 ∧ (pairSrc (2 ^ K) q.1 q.2).1 = .node ∧
      (pairSrc (2 ^ K) q.1 q.2).2 ≤ a ∧ a < (pairSrc (2 ^ K) q.1 q.2).2 + 16 := by
  obtain ⟨r, ⟨hr, hle, hlt⟩, huniq⟩ := existsUnique_level ha
  have hnext : r + 1 < K := by
    by_contra htop
    obtain rfl : r = K - 1 := by omega
    rw [levelOff, nodeCount_top hK] at hlt
    omega
  have hhalf := nodeCount_eq_two_mul hnext
  refine ⟨(r + 1, (a - levelOff (2 ^ K) r) / 16), ⟨hnext, ?_, rfl, ?_⟩, ?_⟩
  · change (a - levelOff (2 ^ K) r) / 16 < nodeCount (2 ^ K) (r + 1)
    omega
  · change levelOff (2 ^ K) r + 16 * ((a - levelOff (2 ^ K) r) / 16) ≤ a ∧
      a < levelOff (2 ^ K) r + 16 * ((a - levelOff (2 ^ K) r) / 16) + 16
    omega
  · rintro ⟨_ | q, j⟩ ⟨hq, hj, hsp, hwords⟩
    · cases hsp
    · change q + 1 < K at hq
      change j < nodeCount (2 ^ K) (q + 1) at hj
      change levelOff (2 ^ K) q + 16 * j ≤ a ∧ a < levelOff (2 ^ K) q + 16 * j + 16 at hwords
      have hhalf' := nodeCount_eq_two_mul hq
      obtain rfl : q = r := huniq q ⟨by omega, by omega, by omega⟩
      exact Prod.ext rfl (show j = (a - levelOff (2 ^ K) q) / 16 by omega)

/-- Settles O14: the leaf words by level 0's pairs, the Node words by the pairs of the level above. -/
theorem everySourceWordIsReadOnce : Obligations.EverySourceWordIsReadOnce :=
  fun _ hK => ⟨fun _ => existsUnique_leaf_reader hK, fun _ => existsUnique_node_reader hK⟩

end Sys2Proof.Machine
end

section
/-! The orchestrator (spec/43_orchestrator.md): what its check answers, what each of its steps does to the state (O26, O28 to
O31), the transitions of the FSM (O49, O50), and that the result of a run is the leaves' alone (O58). -/

namespace Sys2Proof.Machine

/-! ### The result of a run (R222, R223) -/

/-- A Node of height `h` is made of the words of the `2^h` leaves under it alone (R189). -/
theorem treeNode_congr {leaf leaf' : Memory} {n : Nat}
    (hleaf : ∀ a < 8 * n, Memory.read leaf a = Memory.read leaf' a) {h j : Nat} (hj : 2 ^ h * (j + 1) ≤ n) :
    treeNode leaf h j = treeNode leaf' h j := by
  induction h generalizing j with
  | zero =>
    apply Vector.ext
    intro w hw
    rw [treeNode, treeNode, Memory.nodeAt_getElem hw, Memory.nodeAt_getElem hw]
    exact hleaf _ (by rw [leafAddr]; omega)
  | succ h ih =>
    have hright : 2 ^ h * (2 * j + 1 + 1) ≤ n := by
      rw [Nat.pow_succ, Nat.mul_assoc] at hj
      exact hj
    have hleft : 2 ^ h * (2 * j + 1) ≤ n := Nat.le_trans (Nat.mul_le_mul_left _ (Nat.le_succ _)) hright
    rw [treeNode, treeNode, ih hleft, ih hright]

/-- A word is one of the eight of the Node it lies in. -/
theorem Memory.read_eq_nodeAt (m : Memory) (a : Nat) :
    Memory.read m a = (Memory.nodeAt m (8 * (a / 8)))[a % 8]'(Nat.mod_lt a (by decide)) := by
  rw [Memory.nodeAt_getElem, Nat.div_add_mod]

/-- Two memories that hold the trees over the same leaves agree on the trees' region. -/
theorem TreeStored.read_eq {K : Nat} {leaf leaf' node node' : Memory} (h : TreeStored leaf node (2 ^ K))
    (h' : TreeStored leaf' node' (2 ^ K)) (hleaf : ∀ a < 8 * 2 ^ K, Memory.read leaf a = Memory.read leaf' a) {a : Nat}
    (ha : a < 8 * (2 ^ K - 1)) : Memory.read node a = Memory.read node' a := by
  obtain ⟨r, j, hr, hj, haddr⟩ := exists_nodeAddr_eq (K := K) (n := a / 8) (by omega)
  have hlog : r < Nat.log2 (2 ^ K) := by rwa [Nat.log2_two_pow]
  have hunder : 2 ^ (r + 1) * (j + 1) ≤ 2 ^ K := by
    calc 2 ^ (r + 1) * (j + 1) ≤ 2 ^ (r + 1) * 2 ^ (K - 1 - r) :=
          Nat.mul_le_mul_left _ (nodeCount_two_pow hr ▸ hj)
      _ = 2 ^ K := by rw [← Nat.pow_add]; congr 1; omega
  have hnode : Memory.nodeAt node (8 * (a / 8)) = Memory.nodeAt node' (8 * (a / 8)) := by
    rw [← haddr, h r hlog j hj, h' r hlog j hj, treeNode_congr hleaf hunder]
  rw [Memory.read_eq_nodeAt, Memory.read_eq_nodeAt node']
  simp only [hnode]

/-- Settles O58: at DONE both runs have stored the tree over their leaves, whose words are the same. -/
theorem resultDoesNotDependOnTheBuild : Obligations.ResultDoesNotDependOnTheBuild := by
  intro s s' t t' is is' hinv hinv' hf hf' hc hc' hcnt hleaf his his' hrun hrun' hdone hdone' a ha
  have htree := runComputesTheTree s t is hinv hf hc his hrun hdone
  have htree' := runComputesTheTree s' t' is' hinv' hf' hc' his' hrun' hdone'
  have hpow : s.leafCnt.toNat = 2 ^ Nat.log2 s.leaves := (two_pow_log2_leaves_of_check hc).symm
  rw [← hcnt] at htree'
  rw [hpow] at htree htree' hleaf ha
  exact htree.read_eq htree' hleaf ha

/-! ### The configuration check (R204) -/

/-- The check's test of L accepts the powers of two from 2 on. -/
theorem leafCnt_test_iff {L : Nat} : (L < 2 ∨ L &&& (L - 1) ≠ 0) ↔ ¬ ∃ k, 1 ≤ k ∧ L = 2 ^ k := by
  constructor
  · rintro htest ⟨k, hk, rfl⟩
    have htwo : 2 ^ 1 ≤ 2 ^ k := Nat.pow_le_pow_right (by decide) hk
    rcases htest with hlt | hbits
    · omega
    · exact hbits ((Nat.and_sub_one_eq_zero_iff_isPowerOfTwo (by omega)).mpr ⟨k, rfl⟩)
  · intro hno
    by_contra htest
    push Not at htest
    obtain ⟨htwo, hbits⟩ := htest
    obtain ⟨k, rfl⟩ := (Nat.and_sub_one_eq_zero_iff_isPowerOfTwo (by omega)).mp hbits
    refine hno ⟨k, Nat.one_le_iff_ne_zero.mpr ?_, rfl⟩
    rintro rfl
    exact absurd htwo (by decide)

section
variable {c : Config} {L inw outw : Nat}

theorem checkConfig_of_not_two_pow (h : ¬ ∃ k, 1 ≤ k ∧ L = 2 ^ k) : checkConfig c L inw outw = .cfgLeafCnt :=
  if_pos (leafCnt_test_iff.mpr h)

/-- For a power of two the check compares its exponent with the capacity, and then the two word counts. -/
theorem checkConfig_two_pow {k : Nat} (hk : 1 ≤ k) :
    checkConfig c (2 ^ k) inw outw =
      if c.maxLog2Leaves < k then .resCapacity
      else if inw ≠ 8 * 2 ^ k then .cfgInWords
      else if outw ≠ 8 * (2 ^ k - 1) then .cfgOutWords
      else .none := by
  rw [checkConfig, if_neg fun htest => leafCnt_test_iff.mp htest ⟨k, hk, rfl⟩, Nat.log2_two_pow]
end

/-- Settles O26: the codes are different numbers, and each is given where its own check is the first to fail. -/
theorem checkGivesTheFirstFailingCode : Obligations.CheckGivesTheFirstFailingCode := by
  refine fun c L inw outw => ⟨⟨?_, fun h => by rw [checkConfig_of_not_two_pow h]; rfl⟩, ?_⟩
  · rintro hcode ⟨k, hk, rfl⟩
    rw [checkConfig_two_pow hk] at hcode
    split_ifs at hcode <;> cases hcode
  · rintro k hk rfl
    rw [checkConfig_two_pow hk]
    split_ifs with hmax hin hout
    · simp [ErrCode.code, hmax]
    · simp [ErrCode.code, hin, Nat.le_of_not_lt hmax, hmax]
    · simp only [not_not] at hin
      simp [ErrCode.code, hin, hout, Nat.le_of_not_lt hmax, hmax]
    · simp only [not_not] at hin hout
      simp [ErrCode.code, hin, hout, Nat.le_of_not_lt hmax, hmax]

/-! ### When the orchestrator's steps are enabled -/

theorem Fsm.producing_iff {f : Fsm} : f.producing = true ↔ f = .internalLevel ∨ f = .root := by
  cases f <;> simp [Fsm.producing]

theorem enabled_orcCheck_iff {s : State} : enabled .orcCheck s = true ↔ s.fsm = .leafLevel :=
  beq_iff_eq

theorem enabled_orcDispatch_iff {s : State} :
    enabled .orcDispatch s = true ↔ (s.fsm = .internalLevel ∨ s.fsm = .root) ∧ s.dispatched = false := by
  rw [← Fsm.producing_iff]
  simp [enabled, State.dispatchReady]

theorem enabled_orcJoin_iff {s : State} :
    enabled .orcJoin s = true ↔
      (s.fsm = .internalLevel ∨ s.fsm = .root) ∧ s.dispatched = true ∧ ∀ l ∈ s.lanes, l.done = true := by
  rw [← Fsm.producing_iff]
  simp [enabled, State.joinReady, and_assoc]

/-! ### ORC_CHECK (R203) -/

theorem exec_orcCheck_of_failed {s : State} (hf : s.fsm = .leafLevel) (hc : s.check ≠ .none) :
    exec .orcCheck s = .next (s.raiseError s.check) :=
  (if_pos (enabled_orcCheck_iff.mpr hf)).trans (if_neg hc)

theorem exec_orcCheck_of_passed {s : State} (hf : s.fsm = .leafLevel) (hc : s.check = .none) :
    exec .orcCheck s = .next s.checkPassed :=
  (if_pos (enabled_orcCheck_iff.mpr hf)).trans (if_pos hc)

/-- Among the leaf counts that pass the check only two has one level. -/
theorem log2_leaves_eq_one_iff {s : State} (hc : s.check = .none) : Nat.log2 s.leaves = 1 ↔ s.leafCnt = 2#32 := by
  constructor
  · intro hlog
    have hpow := two_pow_log2_leaves_of_check hc
    rw [hlog] at hpow
    exact BitVec.eq_of_toNat_eq hpow.symm
  · intro hcnt
    rw [State.leaves, hcnt]
    rfl

theorem State.checkPassed_eq {s : State} (hc : s.check = .none) :
    s.checkPassed = { s with
      curLevel := 0#5
      dispatched := false
      fsm := if s.leafCnt = 2#32 then .root else .internalLevel } := by
  simp only [State.checkPassed, log2_leaves_eq_one_iff hc]

/-- STATUS at the entry to a level 0 that is not dispatched and has no error: BUSY and the FSM's code alone (R118). -/
theorem State.statusWord_of_first_level {s : State} (hl : s.curLevel = 0#5) (hd : s.dispatched = false)
    (he : s.errCode = .none) (hp : s.fsm.producing = true) :
    s.statusWord = 1#32 ||| s.fsm.code.setWidth 32 <<< 8 := by
  rw [State.statusWord, State.busy, State.isDone, State.isError, hl, hd, he]
  rcases Fsm.producing_iff.mp hp with hf | hf <;> rw [hf] <;> rfl

theorem State.Inv.statusWord_checkPassed {s : State} (h : s.Inv) (hf : s.fsm = .leafLevel) :
    s.checkPassed.statusWord = if Nat.log2 s.leaves = 1 then 0x00000301#32 else 0x00000201#32 := by
  have herr : s.errCode = .none := h.errCode_eq_none (by simp [hf])
  have hp : s.checkPassed.fsm.producing = true := by
    rw [State.checkPassed_fsm]
    split <;> rfl
  rw [State.statusWord_of_first_level (s := s.checkPassed) rfl rfl herr hp, State.checkPassed_fsm]
  split <;> rfl

/-- Settles O28: the two outcomes of the check, and STATUS in the level that a passing one enters. -/
theorem checkEntersErrorOrFirstLevel : Obligations.CheckEntersErrorOrFirstLevel := by
  refine fun s => ⟨enabled_orcCheck_iff, exec_orcCheck_of_failed, fun hf hc => ?_, fun hinv hf hc t ht => ?_⟩
  · rw [exec_orcCheck_of_passed hf hc, State.checkPassed_eq hc]
  · cases (exec_orcCheck_of_passed hf hc).symm.trans ht
    simp only [hinv.statusWord_checkPassed hf, log2_leaves_eq_one_iff hc]

/-! ### ORC_DISPATCH (R206) -/

theorem exec_orcDispatch_of_enabled {s : State} (he : enabled .orcDispatch s = true) :
    exec .orcDispatch s = .next s.allCommanded :=
  if_pos he

theorem State.allCommanded_getElem? {s : State} {i : Nat} {l : Lane} (hl : s.lanes[i]? = some l) :
    s.allCommanded.lanes[i]? = some (s.commandLane i l) := by
  rw [State.allCommanded, List.getElem?_mapIdx, hl]
  rfl

/-- A lane whose command has no pair can take CNS_DONE at once (R206, R246). -/
theorem State.commandLane_doneReady {s : State} {i : Nat}
    (h : lanePairs (nodeCount s.leaves s.curLevel.toNat) s.cfg.lanes i = 0) (l : Lane) :
    (s.commandLane i l).doneReady = true := by
  refine Lane.doneReady_iff.mpr ⟨rfl, rfl, rfl, ?_⟩
  rw [Lane.commandLane_cmdCount, h]
  rfl

theorem State.enabled_cnsDone_allCommanded {s : State} {i : Nat} {l : Lane} (hl : s.lanes[i]? = some l) (hi : i < 256)
    (h : lanePairs (nodeCount s.leaves s.curLevel.toNat) s.cfg.lanes i = 0) :
    enabled (.cnsDone (BitVec.ofNat 8 i)) s.allCommanded = true := by
  have hlane : (BitVec.ofNat 8 i).toNat = i := by
    rw [BitVec.toNat_ofNat]
    exact Nat.mod_eq_of_lt hi
  have hcmd : s.allCommanded.lanes[(BitVec.ofNat 8 i).toNat]? = some (s.commandLane i l) := by
    rw [hlane]
    exact State.allCommanded_getElem? hl
  exact (State.laneReady_of_lane hcmd Lane.doneReady).trans (State.commandLane_doneReady h l)

/-- Settles O29: the state that an enabled dispatch enters is `allCommanded`. -/
theorem dispatchCommandsEveryLane : Obligations.DispatchCommandsEveryLane := by
  refine fun s => ⟨enabled_orcDispatch_iff, fun he => ⟨s.allCommanded, exec_orcDispatch_of_enabled he, rfl, ?_, ?_⟩⟩
  · exact List.length_mapIdx
  · rintro i l hl c rfl
    exact ⟨State.allCommanded_getElem? hl, fun hzero hi => State.enabled_cnsDone_allCommanded hl hi hzero⟩

/-! ### ORC_JOIN (R213, R214) -/

theorem exec_orcJoin_of_enabled {s : State} (he : enabled .orcJoin s = true) : exec .orcJoin s = .next s.joined :=
  if_pos he

theorem exec_orcJoin_of_not_enabled {s : State} (he : enabled .orcJoin s = false) : exec .orcJoin s = .next s :=
  if_neg (Bool.eq_false_iff.mp he)

theorem State.joined_eq {s : State} {f : Fsm} {r : BitVec 5} (h : s.nextLevel = (f, r)) :
    s.joined = { s with lanes := s.lanes.map Lane.released, dispatched := false, fsm := f, curLevel := r } := by
  rw [State.joined, h]

/-- Settles O30: the state that an enabled join enters is `joined`, at the next level of its case. -/
theorem joinReleasesTheBarrier : Obligations.JoinReleasesTheBarrier := by
  refine fun s => ⟨enabled_orcJoin_iff, fun hd hdone => ⟨fun hf => ?_, fun hf hlt => ?_, fun hf hlast => ?_⟩⟩
  · have hnext : s.nextLevel = (.done, s.curLevel) := by simp [State.nextLevel, hf]
    rw [exec_orcJoin_of_enabled (enabled_orcJoin_iff.mpr ⟨.inr hf, hd, hdone⟩), State.joined_eq hnext]
    rfl
  · have hnext : s.nextLevel = (s.fsm, s.curLevel + 1#5) := by
      rw [State.nextLevel, if_pos hf, if_pos (show _ + 1 < roundsOf s.leaves from hlt), hf]
    rw [exec_orcJoin_of_enabled (enabled_orcJoin_iff.mpr ⟨.inl hf, hd, hdone⟩), State.joined_eq hnext]
    rfl
  · have hnext : s.nextLevel = (.root, BitVec.ofNat 5 (roundsOf s.leaves)) := by
      rw [State.nextLevel, if_pos hf, if_neg (show ¬ _ + 1 < roundsOf s.leaves from hlast)]
    rw [exec_orcJoin_of_enabled (enabled_orcJoin_iff.mpr ⟨.inl hf, hd, hdone⟩), State.joined_eq hnext]
    rfl

/-- A committed lane has both counters at its count (R54 c, d). -/
theorem Lane.Ok.counters_of_done {c : Config} {l : Lane} (hok : Lane.Ok c l) (hd : l.done = true) :
    l.prdK = l.cmdCount ∧ l.cnsK = l.cmdCount := by
  obtain ⟨hzero, -⟩ := Lane.holdsNothing_iff.mp (hok.holdsNothing_of_done hd)
  obtain ⟨hfree, hcount, -, hdone, -⟩ := hok
  have hv : l.cmdValid = true := by
    by_contra hne
    cases hd.symm.trans (hfree (by simpa using hne)).2
  obtain ⟨hsent, -⟩ := hcount hv
  rw [hdone hd, hzero] at hsent
  exact ⟨BitVec.eq_of_toNat_eq hsent, hdone hd⟩

/-- Settles O31: at the join every lane has committed, and a committed lane holds nothing. -/
theorem joinFindsEveryLaneEmpty : Obligations.JoinFindsEveryLaneEmpty := by
  intro s hinv he l hl
  obtain ⟨-, -, hdone⟩ := enabled_orcJoin_iff.mp he
  obtain ⟨-, ⟨-, hlanes⟩, -⟩ := hinv
  have hok := hlanes l hl
  have hnothing := hok.holdsNothing_of_done (hdone l hl)
  simp only [Lane.holdsNothing, Bool.and_eq_true, List.isEmpty_iff, beq_iff_eq] at hnothing
  obtain ⟨⟨⟨⟨hreq, hrsp⟩, heng⟩, hprd⟩, hcns⟩ := hnothing
  obtain ⟨hprdK, hcnsK⟩ := hok.counters_of_done (hdone l hl)
  exact ⟨hreq, hrsp, heng, hprd, hprdK, hcns, hcnsK⟩

/-! ### The transitions of the FSM (R201, R202) -/

/-- The orchestrator's state, level and barrier flag are the same in two states. -/
abbrev State.SameOrc (s t : State) : Prop :=
  t.fsm = s.fsm ∧ t.curLevel = s.curLevel ∧ t.dispatched = s.dispatched

theorem State.not_busy_cases {s : State} (h : s.busy = false) : s.fsm = .idle ∨ s.fsm = .done ∨ s.fsm = .error := by
  unfold State.busy at h
  cases hf : s.fsm <;> simp_all [Fsm.busy]

/-- A write moves the orchestrator only if it is a START of a block that is not BUSY (R265, R267). -/
theorem exec_hostWr_orc {i : Instr} {s t : State} (hi : i.kind = .hostWr) (h : exec i s = .next t) :
    s.SameOrc t ∨ i.isStart = true ∧ s.busy = false ∧ t = s.start := by
  cases hs : i.isStart with
  | false =>
    obtain ⟨idx, data, heq, hnot⟩ := exec_of_hostWr_not_start hi hs s
    cases heq.symm.trans h
    rcases State.regWrite_cases s idx data with
      ⟨hidx, hbit, -⟩ | ⟨-, -, heq⟩ | ⟨-, -, heq⟩ | ⟨-, -, heq⟩ | heq
    · exact absurd ⟨hidx, hbit⟩ hnot
    all_goals rw [heq]; exact .inl ⟨rfl, rfl, rfl⟩
  | true =>
    obtain ⟨idx, data, heq⟩ := exec_of_hostWr hi s
    cases heq.symm.trans h
    rcases State.regWrite_cases s idx data with
      ⟨-, -, hb, heq⟩ | ⟨-, -, heq⟩ | ⟨-, -, heq⟩ | ⟨-, -, heq⟩ | heq <;> rw [heq]
    · exact .inr ⟨rfl, hb, rfl⟩
    all_goals exact .inl ⟨rfl, rfl, rfl⟩

theorem fsmRow.start {i : Instr} {s : State} (hi : i.isStart = true) (hb : s.busy = false) : fsmRow i s s.start :=
  .inl ⟨hi, State.not_busy_cases hb, rfl, rfl, rfl⟩

theorem fsmRow.checkFailed {s : State} (hf : s.fsm = .leafLevel) (hc : s.check ≠ .none) :
    fsmRow .orcCheck s (s.raiseError s.check) :=
  .inr (.inl ⟨rfl, hf, hc, rfl, rfl, rfl⟩)

theorem fsmRow.checkPassed {s : State} (hf : s.fsm = .leafLevel) (hc : s.check = .none) :
    fsmRow .orcCheck s s.checkPassed := by
  have hlog := one_le_log2_of_check hc
  refine .inr (.inr ?_)
  by_cases hone : Nat.log2 s.leaves = 1
  · exact .inl ⟨rfl, hf, hc, hone, if_pos hone, rfl, rfl⟩
  · exact .inr (.inl ⟨rfl, hf, hc, by omega, if_neg hone, rfl, rfl⟩)

theorem fsmRow.dispatched {s : State} (hp : s.fsm.producing = true) (hd : s.dispatched = false) :
    fsmRow .orcDispatch s s.allCommanded :=
  .inr (.inr (.inr (.inr (.inl ⟨rfl, Fsm.producing_iff.mp hp, hd, rfl, rfl, rfl⟩))))

theorem fsmRow.joined {s : State} (hp : s.fsm.producing = true) (hd : s.dispatched = true) :
    fsmRow .orcJoin s s.joined := by
  refine .inr (.inr (.inr (.inr (.inr ?_))))
  rcases State.nextLevel_cases hp with ⟨hf, hlt, hnext⟩ | ⟨hf, hlast, hnext⟩ | ⟨hf, hnext⟩ <;>
    rw [State.joined_eq hnext]
  · exact .inl ⟨rfl, hf, hd, hlt, rfl, rfl, rfl⟩
  · exact .inr (.inl ⟨rfl, hf, hd, hlast, rfl, rfl, rfl⟩)
  · exact .inr (.inr (.inl ⟨rfl, hf, hd, rfl, rfl, rfl⟩))

theorem fsmRow.reset (s : State) : fsmRow .reset s s.resetBlock :=
  .inr (.inr (.inr (.inr (.inr (.inr (.inr (.inr ⟨rfl, rfl, rfl, rfl⟩)))))))

/-- Every instruction leaves the orchestrator where it is, or moves it by a row of the table (R202). -/
theorem exec_sameOrc_or_fsmRow {i : Instr} {s t : State} (h : exec i s = .next t) : s.SameOrc t ∨ fsmRow i s t := by
  have hsame : s.SameOrc s := ⟨rfl, rfl, rfl⟩
  rcases Instr.agent_cases i with hrd | hwr | rfl | rfl | rfl | rfl | ⟨lane, hlane⟩
  · obtain ⟨idx, heq⟩ := exec_of_hostRd hrd s
    cases heq.symm.trans h
    exact .inl ⟨rfl, rfl, rfl⟩
  · rcases exec_hostWr_orc hwr h with hsame | ⟨hstart, hb, rfl⟩
    · exact .inl hsame
    · exact .inr (.start hstart hb)
  · cases h
    exact .inr (.reset s)
  · rcases execOrcCheck_cases s with heq | ⟨hf, hc, heq⟩ | ⟨hf, hc, heq⟩ <;> cases heq.symm.trans h
    · exact .inl hsame
    · exact .inr (.checkPassed hf hc)
    · exact .inr (.checkFailed hf hc)
  · rcases execOrcDispatch_cases s with heq | ⟨hp, hd, heq⟩ <;> cases heq.symm.trans h
    · exact .inl hsame
    · exact .inr (.dispatched hp hd)
  · cases he : enabled .orcJoin s with
    | false =>
      cases (exec_orcJoin_of_not_enabled he).symm.trans h
      exact .inl hsame
    | true =>
      obtain ⟨hp, hd, -⟩ := enabled_orcJoin_iff.mp he
      cases (exec_orcJoin_of_enabled he).symm.trans h
      exact .inr (.joined (Fsm.producing_iff.mpr hp) hd)
  · obtain ⟨l, -, rfl⟩ := exec_next_turned hlane h
    exact .inl ⟨rfl, rfl, rfl⟩

section
variable {i : Instr} {s t : State}

/-- START and ORC_CHECK move the orchestrator from a state in which no level is produced. -/
theorem fsmRow.not_producing (h : fsmRow i s t) (hi : i.isStart = true ∨ i = .orcCheck) : s.fsm.producing = false := by
  rcases h with ⟨-, hf | hf | hf, -⟩ | ⟨-, hf, -⟩ | ⟨-, hf, -⟩ | ⟨-, hf, -⟩ | ⟨rfl, -⟩ | ⟨rfl, -⟩ | ⟨rfl, -⟩ | ⟨rfl, -⟩ |
    ⟨rfl, -⟩
  iterate 6 rw [hf]; rfl
  all_goals rcases hi with hi | hi <;> cases hi

/-- ORC_JOIN enters ROOT from INTERNAL_LEVEL after the last internal level. -/
theorem fsmRow.last_level (h : fsmRow .orcJoin s t) (hf : s.fsm = .internalLevel) (ht : t.fsm = .root) :
    ¬ s.curLevel.toNat + 1 < roundsOf s.leaves := by
  rcases h with ⟨⟨⟩, -⟩ | ⟨⟨⟩, -⟩ | ⟨⟨⟩, -⟩ | ⟨⟨⟩, -⟩ | ⟨⟨⟩, -⟩ | ⟨-, -, -, -, hto, -⟩ | ⟨-, -, -, hlast, -⟩ |
    ⟨-, hroot, -⟩ | ⟨⟨⟩, -⟩
  · cases hto.symm.trans ht
  · exact hlast
  · cases hroot.symm.trans hf

/-- START is the only row that enters LEAF_LEVEL (R201). -/
theorem fsmRow.isStart_of_entered (h : fsmRow i s t) (hs : s.fsm ≠ .leafLevel) (ht : t.fsm = .leafLevel) :
    i.isStart = true := by
  rcases h with ⟨hi, -⟩ | ⟨-, hf, -⟩ | ⟨-, hf, -⟩ | ⟨-, hf, -⟩ | ⟨-, -, -, hto, -⟩ | ⟨-, -, -, -, hto, -⟩ |
    ⟨-, -, -, -, hto, -⟩ | ⟨-, -, -, hto, -⟩ | ⟨-, hto, -⟩
  · exact hi
  iterate 3 exact absurd hf hs
  · exact absurd (hto.symm.trans ht) hs
  all_goals cases hto.symm.trans ht

/-- START and RESET are the only rows that leave DONE and ERROR (R201). -/
theorem fsmRow.of_terminal (h : fsmRow i s t) (hs : s.fsm = .done ∨ s.fsm = .error) :
    (i.isStart = true ∧ t.fsm = .leafLevel) ∨ (i = .reset ∧ t.fsm = .idle) := by
  have hnot (f : Fsm) (hf : s.fsm = f) (hne : f ≠ .done ∧ f ≠ .error) : False := by
    rcases hs with hs | hs
    · exact hne.1 (hf.symm.trans hs)
    · exact hne.2 (hf.symm.trans hs)
  rcases h with ⟨hi, -, hto, -⟩ | ⟨-, hf, -⟩ | ⟨-, hf, -⟩ | ⟨-, hf, -⟩ | ⟨-, hf | hf, -⟩ | ⟨-, hf, -⟩ | ⟨-, hf, -⟩ |
    ⟨-, hf, -⟩ | ⟨hi, hto, -⟩
  · exact .inl ⟨hi, hto⟩
  iterate 8 exact (hnot _ hf (by decide)).elim
  · exact .inr ⟨hi, hto⟩
end

/-- Settles O49: what moves the orchestrator is a row of the table; the invariant adds what holds before it. -/
theorem fsmFollowsItsTable : Obligations.FsmFollowsItsTable := by
  intro i s t h hmoved
  have hrow := (exec_sameOrc_or_fsmRow h).resolve_left hmoved
  refine ⟨hrow, fun hinv => ⟨fun hi => (hinv.no_command (hrow.not_producing hi)).1, ?_⟩⟩
  rintro rfl hf ht
  have hlast := hrow.last_level hf ht
  obtain ⟨-, -, -, -, -, -, -, hlevel, -⟩ := hinv
  have hlt := hlevel hf
  omega

/-- Settles O50: an instruction that moves the FSM takes a row of the table, and no block step is START or RESET. -/
theorem terminalStatesLeftByStartOrReset : Obligations.TerminalStatesLeftByStartOrReset := by
  intro i s t h
  rcases exec_sameOrc_or_fsmRow h with ⟨hsame, -⟩ | hrow
  · exact ⟨fun hs ht => absurd (hsame.symm.trans ht) hs, fun _ => .inl hsame, fun _ _ => hsame⟩
  · refine ⟨hrow.isStart_of_entered, fun hs => .inr (hrow.of_terminal hs), fun hs hblock => ?_⟩
    obtain ⟨hnotStart, hnotReset⟩ := Instr.isStart_of_isBlock hblock
    rcases hrow.of_terminal hs with ⟨hstart, -⟩ | ⟨hreset, -⟩
    · cases hnotStart.symm.trans hstart
    · exact absurd hreset hnotReset

end Sys2Proof.Machine
end

section
/-! What each step of a lane does, by its own rule (spec/44_lanes.md R233 to R246): O32 to O36; and that it sees no other
lane (R251): O39. -/

namespace Sys2Proof.Machine

/-! ### A lane step's condition, as its rule says it -/

/-- For a lane the build has, a lane step is enabled exactly if what its rule requires of the lane holds. -/
theorem State.laneReady_iff {s : State} {lane : BitVec 8} {l : Lane} (hl : s.lanes[lane.toNat]? = some l)
    {ready : Lane → Bool} {p : Prop} (h : ready l = true ↔ p) : s.laneReady lane ready = true ↔ p := by
  rw [State.laneReady_of_lane hl, h]

theorem State.ready_of_laneReady {s : State} {lane : BitVec 8} {l : Lane} (hl : s.lanes[lane.toNat]? = some l)
    {ready : Lane → Bool} (h : s.laneReady lane ready = true) : ready l = true :=
  (State.laneReady_iff hl Iff.rfl).mp h

/-! ### The steps within the lane (R234, R235, R237 to R239, R241, R246) -/

/-- Settles O33: each condition is read off the lane, and each effect is the step's own. -/
theorem registerStepsOfALane : Obligations.RegisterStepsOfALane := by
  intro lane s l hl
  refine ⟨State.laneReady_iff hl Lane.padReady_iff, fun hpad => ?_, State.laneReady_iff hl Lane.compressReady_iff,
    fun hcomp => ⟨datapathAfter l.buf.eb, ?_⟩, State.laneReady_iff hl Lane.doneReady_iff, fun hen => ?_⟩
  · exact laneStep_ready hl (Lane.padReady_iff.mpr hpad)
  · exact laneStep_ready hl (Lane.compressReady_iff.mpr hcomp)
  · exact laneStep_ready hl (State.ready_of_laneReady hl hen)

/-- Settles O34: a send that is enabled is the append of its buffer to a channel with room. -/
theorem sendsAppendUnlessFull : Obligations.SendsAppendUnlessFull := by
  intro lane s l hl
  refine ⟨State.laneReady_iff hl Lane.sendReady_iff, fun hen => ?_, State.laneReady_iff hl Lane.engSendReady_iff,
    fun hen => ?_⟩
  · exact laneStep_ready hl (State.ready_of_laneReady hl hen)
  · exact laneStep_ready hl (State.ready_of_laneReady hl hen)

/-- Settles O35: an enabled receive finds the channel's head, which `chanRecv` takes. -/
theorem receivesTakeTheHead : Obligations.ReceivesTakeTheHead := by
  intro lane s l hl
  refine ⟨State.laneReady_iff hl Lane.engRecvReady_iff, fun b rest hen hreq => ?_,
    State.laneReady_iff hl Lane.recvReady_iff, fun d rest hen hrsp => ?_⟩
  · refine (laneStep_ready hl (State.ready_of_laneReady hl hen)).trans ?_
    rw [chanRecv_eq_some.mpr hreq]
    rfl
  · refine (laneStep_ready hl (State.ready_of_laneReady hl hen)).trans ?_
    rw [chanRecv_eq_some.mpr hrsp]
    rfl

/-! ### The two steps that access a memory (R233, R242) -/

theorem exec_prdRead_in_range {lane : BitVec 8} {s : State} {l : Lane} (hl : s.lanes[lane.toNat]? = some l)
    (hr : l.readReady = true)
    (hin : (s.readSource lane.toNat l).2 + 16 ≤ Space.size s.cfg (s.readSource lane.toNat l).1) :
    exec (.prdRead lane) s = .next (s.setLane lane.toNat (l.pairRead
      (Memory.readWords (s.memOf (s.readSource lane.toNat l).1) (s.readSource lane.toNat l).2 16))) := by
  refine (laneStep_ready hl hr).trans ?_
  rw [State.memRead_eq_some.mpr ⟨hin, rfl⟩]

theorem exec_cnsWrite_in_range {lane : BitVec 8} {s : State} {l : Lane} (hl : s.lanes[lane.toNat]? = some l)
    (hr : l.writeReady = true) (hin : s.writeTarget lane.toNat l + 8 ≤ Space.size s.cfg .node) :
    exec (.cnsWrite lane) s = .next
      ((s.withMem .node (Memory.writeWords s.nodeMem (s.writeTarget lane.toNat l) l.buf.db.toList)).setLane lane.toNat
        l.nodeWritten) := by
  refine (laneStep_ready hl hr).trans ?_
  rw [State.memWrite_eq_some.mpr ⟨by simpa using hin, rfl⟩]
  rfl

/-- Settles O32: `(sp, a)` is the lane's `readSource`, in range by the invariant, and its 16 words go to PB. -/
theorem producerReadsItsPair : Obligations.ProducerReadsItsPair := by
  intro lane s l hl
  refine ⟨State.laneReady_iff hl Lane.readReady_iff, fun sp a hen hsrc => ?_⟩
  have hr : l.readReady = true := State.ready_of_laneReady hl hen
  obtain ⟨rfl, rfl⟩ : sp = (s.readSource lane.toNat l).1 ∧ a = (s.readSource lane.toNat l).2 := Prod.mk.inj hsrc
  exact ⟨fun hinv => hinv.read_in_range hl hr, exec_prdRead_in_range hl hr⟩

/-- Settles O36: `a` is the lane's `writeTarget`, in range by the invariant; the words there are DB's after the store, and
the store leaves every other word alone. -/
theorem consumerStoresItsNode : Obligations.ConsumerStoresItsNode := by
  intro lane s l hl
  refine ⟨State.laneReady_iff hl Lane.writeReady_iff, fun a hwrite ha => ?_⟩
  obtain rfl : a = s.writeTarget lane.toNat l := ha
  have hr : l.writeReady = true := Lane.writeReady_iff.mpr hwrite
  refine ⟨fun hinv => hinv.write_in_range hl hr, fun hin hwf =>
    ⟨_, exec_cnsWrite_in_range hl hr hin, rfl, fun w hw => ?_, fun b hb => ?_⟩⟩
  · refine (Memory.read_writeWords_inside hwf (by simp; omega)).trans ?_
    simp
  · exact Memory.read_writeWords_outside hwf (by simpa using hb)

/-! ### No lane sees another (R251) -/

/-- A lane step that answers a next state has reached no word beyond the memories. -/
theorem exec_next_in_range {i : Instr} {lane : BitVec 8} {s t : State} {l : Lane} (hl : s.lanes[lane.toNat]? = some l)
    (h : exec i s = .next t) :
    (i = .prdRead lane → l.readReady = true →
      (s.readSource lane.toNat l).2 + 16 ≤ Space.size s.cfg (s.readSource lane.toNat l).1) ∧
    (i = .cnsWrite lane → l.writeReady = true → s.writeTarget lane.toNat l + 8 ≤ Space.size s.cfg .node) := by
  constructor
  · rintro rfl hr
    by_contra hout
    cases (exec_prdRead_out_of_range hl hr (Nat.lt_of_not_le hout)).symm.trans h
  · rintro rfl hr
    by_contra hout
    cases (exec_cnsWrite_out_of_range hl hr (Nat.lt_of_not_le hout)).symm.trans h

/-- What a lane becomes at its turn does not depend on the other lanes. -/
theorem State.laneAfter_withLanes (s : State) (lanes : List Lane) (i : Instr) (k : Nat) (l : Lane) :
    State.laneAfter { s with lanes := lanes } i k l = s.laneAfter i k l := rfl

/-- Settles O39: a lane step is a turn of its lane, which sets that lane and NodeMem only; and neither the turn nor its range
checks read the list of lanes elsewhere. -/
theorem lanesAreIndependent : Obligations.LanesAreIndependent := by
  intro i lane s t hi h
  obtain ⟨l, hl, rfl⟩ := exec_next_turned hi h
  refine ⟨⟨rfl, fun k hk => List.getElem?_set_ne (Ne.symm hk)⟩, fun lanes hlanes => ?_⟩
  obtain ⟨hread, hwrite⟩ := exec_next_in_range hl h
  have hl' : lanes[lane.toNat]? = some l := hlanes.trans hl
  refine ⟨_, exec_eq_turned (s := { s with lanes := lanes }) hi hl' hread hwrite, ?_, rfl⟩
  rw [State.turned_lanes, State.turned_lanes, State.laneAfter_withLanes,
    List.getElem?_set_self (List.getElem?_eq_some_iff.mp hl').1,
    List.getElem?_set_self (List.getElem?_eq_some_iff.mp hl).1]

end Sys2Proof.Machine
end

section
/-! Progress and termination (spec/44_lanes.md R250): a busy block can always step, every schedule of enabled steps uses up
the steps that `State.stepsLeft` counts, and so does the free scheduler: O48, O53, O54, O59. -/

namespace Sys2Proof.Machine

/-! ### Progress -/

/-- Settles O48: the orchestrator can step outside a dispatched level, and inside one a lane that has not committed can. -/
theorem busyBlockCanStep : Obligations.BusyBlockCanStep :=
  fun _ hinv hb => hinv.exists_enabled hb

/-- Settles O53: by the agent of the step, each with its own count. -/
theorem everyBlockStepIsCounted : Obligations.EveryBlockStepIsCounted :=
  fun _ _ hinv hi he => hinv.exec_stepsLeft hi he

/-- No step is left exactly when the run is over: a busy block can take one. -/
theorem State.Inv.stepsLeft_eq_zero_iff {s : State} (h : s.Inv) : s.stepsLeft = 0 ↔ s.busy = false := by
  refine ⟨fun hzero => ?_, State.stepsLeft_of_not_busy⟩
  by_contra hne
  obtain ⟨i, hi, he⟩ := h.exists_enabled (by simpa using hne)
  obtain ⟨t, -, hleft⟩ := h.exec_stepsLeft (isBlock_of_mem_blockSteps hi) he
  omega

/-! ### Schedules of enabled steps -/

/-- A schedule of enabled block steps uses up as many steps as it is long. -/
theorem State.Inv.stepsLeft_runSchedule {is : List Instr} {s t : State} (h : s.Inv) (hblock : ∀ i ∈ is, i.isBlock = true)
    (hen : allEnabled is s = true) (hrun : runSchedule is s = .next t) : t.stepsLeft + is.length = s.stepsLeft := by
  induction is generalizing s with
  | nil =>
    cases hrun
    rfl
  | cons i rest ih =>
    obtain ⟨hi, hrest⟩ := List.forall_mem_cons.mp hblock
    rw [allEnabled, Bool.and_eq_true] at hen
    obtain ⟨he, hen⟩ := hen
    obtain ⟨u, hexec, hleft⟩ := h.exec_stepsLeft hi he
    rw [runSchedule] at hrun
    rw [hexec] at hen hrun
    have hlater := ih (exec_keeps_inv h hexec) hrest hen hrun
    rw [List.length_cons]
    omega

/-- In a run from START with a passing check, DONE is the state with no step left. -/
theorem RunRecord.fsm_eq_done_iff {K : Nat} {ws : List Nat} {s : State} (h : RunRecord K ws s) :
    s.fsm = .done ↔ s.stepsLeft = 0 := by
  rw [h.inv.stepsLeft_eq_zero_iff]
  constructor
  · intro hf
    rw [State.busy, hf]
    rfl
  · intro hb
    exact h.phase.resolve_right fun hrun => by cases hb.symm.trans hrun.1

/-- At START with a passing check a whole run is left (R320). -/
theorem State.stepsLeft_of_start {s : State} (hf : s.fsm = .leafLevel) (hc : s.check = .none) :
    s.stepsLeft = runLength s.cfg.lanes s.leaves := by
  rw [State.stepsLeft, if_pos hf, if_pos hc]

/-- Settles O54: the schedule's length and the steps left at its end add up to the run's length, and none is left at DONE
only. -/
theorem runTakesExactlyItsSteps : Obligations.RunTakesExactlyItsSteps := by
  intro s t is hinv hf hc his hen hrun
  have hrunSchedule : RunSchedule s.cfg is := fun i hi =>
    ⟨(his i hi).2, Instr.isStart_of_isBlock (his i hi).1⟩
  have hcount := hinv.stepsLeft_runSchedule (fun i hi => (his i hi).1) hen hrun
  rw [State.stepsLeft_of_start hf hc] at hcount
  rw [(RunRecord.of_run hinv hf hc hrunSchedule hrun).fsm_eq_done_iff]
  change _ ↔ is.length = runLength s.cfg.lanes s.leaves
  omega

/-! ### The free run -/

theorem core_run_succ {s t : State} (h : step s = .next t) (n : Nat) : core.run (n + 1) s = core.run n t := by
  have hstep : core.step s = .next t := h
  simp only [Host.Core.run, hstep]

/-- Left alone for as many steps as the run has left, the machine is at DONE with the tree stored. -/
theorem TreeRecord.core_run_done {K n : Nat} {leaf : Memory} {ws : List Nat} {s : State} (h : TreeRecord K leaf ws s)
    (hin : s.inputs = []) (hn : s.stepsLeft = n) :
    ∃ t : State, core.run n s = .next t ∧ t.fsm = .done ∧ TreeStored leaf t.nodeMem (2 ^ K) := by
  induction n generalizing s ws with
  | zero =>
    have hf := h.run.fsm_eq_done_iff.mpr hn
    exact ⟨s, rfl, hf, h.treeStored hf⟩
  | succ n ih =>
    have hb : s.busy = true := by
      by_contra hne
      have := State.stepsLeft_of_not_busy (by simpa using hne)
      omega
    obtain ⟨_, u, hstep, hrec, hinputs, hleft⟩ := h.freeTurn hin hb
    rw [core_run_succ hstep]
    exact ih hrec hinputs (by omega)

/-- Only a lane that has a command has an enabled step (R54 b). -/
theorem State.Inv.commands_of_enabled {i : Instr} {lane : BitVec 8} {s : State} (h : s.Inv) (hi : i.lane? = some lane)
    (he : enabled i s = true) : ∃ l, s.lanes[lane.toNat]? = some l ∧ s.Commands lane.toNat l := by
  obtain ⟨ready, -, hen, -⟩ := exec_eq_laneStep hi s
  obtain ⟨l, hl, -⟩ := (Option.any_eq_true _ _).mp (hen.symm.trans he)
  have hready : l.ready s.cfg = true := by
    rw [← State.any_enabled_laneSteps hl]
    exact List.any_eq_true.mpr ⟨i, mem_laneSteps hi, he⟩
  exact ⟨l, hl, h.commands hl ((h.lane_ok hl).cmdValid_of_ready hready)⟩

/-- At LEAF_LEVEL no command is out, so ORC_CHECK is the only block step that is enabled (R201, R203). -/
theorem State.Inv.eq_orcCheck_of_enabled {i : Instr} {s : State} (h : s.Inv) (hf : s.fsm = .leafLevel)
    (hi : i.isBlock = true) (he : enabled i s = true) : i = .orcCheck := by
  have hp : s.fsm.producing = false := by rw [hf]; rfl
  rcases Instr.block_cases hi with rfl | rfl | rfl | ⟨lane, hlane⟩
  · rfl
  · obtain ⟨hprod, -⟩ := enabled_orcDispatch_iff.mp he
    cases hp.symm.trans (Fsm.producing_iff.mpr hprod)
  · obtain ⟨hprod, -⟩ := enabled_orcJoin_iff.mp he
    cases hp.symm.trans (Fsm.producing_iff.mpr hprod)
  · obtain ⟨l, -, hcmd⟩ := h.commands_of_enabled hlane he
    cases hp.symm.trans hcmd.producing

/-- The free turn at LEAF_LEVEL is ORC_CHECK, whatever the scheduler chooses. -/
theorem State.Inv.step_of_leafLevel {s : State} (h : s.Inv) (hf : s.fsm = .leafLevel) (hin : s.inputs = []) :
    step s = exec .orcCheck { s with turn := s.turn + 1, history := eventAt .orcCheck 0#32 s :: s.history } := by
  have hb : s.busy = true := by rw [State.busy, hf]; rfl
  obtain ⟨-, hsome⟩ := freeTurnTakesAnEnabledStep s h.assertions hin
  obtain ⟨i, hi, he, hstep⟩ := hsome (h.exists_enabled hb)
  obtain rfl := h.eq_orcCheck_of_enabled hf (isBlock_of_mem_blockSteps hi) he
  exact hstep

/-- Settles O59: the run's record is kept by every free turn until no step is left, which is at DONE; a failing check is the
one step that the machine takes from LEAF_LEVEL. -/
theorem freeRunReachesDone : Obligations.FreeRunReachesDone := by
  intro s hinv hf hin
  constructor
  · intro hc
    have hdone := (TreeRecord.start hinv hf hc).core_run_done hin (State.stepsLeft_of_start hf hc)
    rwa [two_pow_log2_leaves_of_check hc] at hdone
  · intro hc
    have hstep := (hinv.step_of_leafLevel hf hin).trans (exec_orcCheck_of_failed hf hc)
    exact ⟨_, core_run_succ hstep 0, rfl, rfl⟩

end Sys2Proof.Machine
end

section
/-! The Host's interface (spec/45_host_interface.md): what each register index reads and what a write to it does, the
registers of a run, and the transfers to and from the memories. From it O17 to O23 and O44. -/

namespace Sys2Proof.Machine

/-! ### Reads (R261 to R264, R268) -/

theorem State.regRead_eq (s : State) (idx : BitVec 4) :
    s.regRead idx =
      if idx = 1#4 then s.statusWord else if idx = 2#4 then s.leafCnt else if idx = 3#4 then s.inWords
      else if idx = 4#4 then s.outWords else if idx = 5#4 then configWord s.cfg else 0#32 := by
  obtain ⟨n⟩ := idx
  fin_cases n <;> rfl

/-- An index from 6 on is none of the indices below 6. -/
theorem ne_of_reserved {idx : BitVec 4} (h : 6 ≤ idx.toNat) {j : BitVec 4} (hj : j.toNat < 6) : idx ≠ j :=
  fun heq => by rw [heq] at h; omega

theorem State.regRead_of_reserved (s : State) {idx : BitVec 4} (h : 6 ≤ idx.toNat) : s.regRead idx = 0#32 := by
  rw [State.regRead_eq]
  iterate 5 rw [if_neg (ne_of_reserved h (by decide))]

/-- The fields of CONFIG do not overlap in a legal build, so that its word is their sum (R119, R264). -/
theorem configWord_toNat {c : Config} (h : c.wf = true) :
    (configWord c).toNat = c.lanes + 256 * c.maxLog2Leaves + 65536 * c.chanDepth := by
  simp only [Config.wf, Bool.and_eq_true, decide_eq_true_eq] at h
  obtain ⟨⟨⟨⟨⟨-, hlanes⟩, -⟩, hdepth⟩, -⟩, hlog⟩ := h
  have hshift (n k : Nat) (hn : n ≤ 255) (hk : k ≤ 16) : (BitVec.ofNat 32 n <<< k).toNat = n <<< k := by
    have hpow : 2 ^ k ≤ 2 ^ 16 := Nat.pow_le_pow_right (by omega) hk
    have hprod : n * 2 ^ k ≤ 255 * 2 ^ 16 := Nat.mul_le_mul hn hpow
    have hword : n < 2 ^ 32 := by omega
    rw [BitVec.toNat_shiftLeft, BitVec.toNat_ofNat, Nat.mod_eq_of_lt hword,
      Nat.mod_eq_of_lt (by rw [Nat.shiftLeft_eq]; omega)]
  have hlow : c.lanes ||| c.maxLog2Leaves <<< 8 = c.maxLog2Leaves <<< 8 + c.lanes :=
    (Nat.or_comm _ _).trans (Nat.shiftLeft_add_eq_or_of_lt (by omega) _).symm
  have hhigh : (c.maxLog2Leaves <<< 8 + c.lanes) ||| c.chanDepth <<< 16 =
      c.chanDepth <<< 16 + (c.maxLog2Leaves <<< 8 + c.lanes) :=
    (Nat.or_comm _ _).trans (Nat.shiftLeft_add_eq_or_of_lt (by rw [Nat.shiftLeft_eq]; omega) _).symm
  rw [configWord, BitVec.toNat_or, BitVec.toNat_or, hshift _ _ (by omega) (by omega), hshift _ _ hdepth (by omega),
    BitVec.toNat_ofNat, Nat.mod_eq_of_lt (by omega), hlow, hhigh, Nat.shiftLeft_eq, Nat.shiftLeft_eq]
  omega

/-! ### Writes (R265 to R268) -/

/-- A write to STATUS, to CONFIG or to a reserved index has no effect (R266, R268). -/
theorem State.regWrite_of_ignored (s : State) {idx : BitVec 4} (data : Word) (h : idx = 1#4 ∨ 5 ≤ idx.toNat) :
    s.regWrite idx data = s := by
  rcases State.regWrite_cases s idx data with ⟨rfl, -⟩ | ⟨rfl, -⟩ | ⟨rfl, -⟩ | ⟨rfl, -⟩ | heq
  iterate 4 exact absurd h (by decide)
  exact heq

/-- A write to CTRL with bit 0 clear has no effect (R267). -/
theorem State.regWrite_ctrl_of_clear (s : State) {data : Word} (h : data.getLsbD 0 = false) :
    s.regWrite 0#4 data = s := by
  rw [State.regWrite_ctrl, h]
  rfl

theorem State.regWrite_eq (s : State) (idx : BitVec 4) (data : Word) :
    s.regWrite idx data =
      if s.busy then s
      else if idx = 0#4 ∧ data.getLsbD 0 = true then s.start
      else if idx = 2#4 then { s with leafCnt := data }
      else if idx = 3#4 then { s with inWords := data }
      else if idx = 4#4 then { s with outWords := data } else s := by
  split_ifs with hb hstart hleaf hin hout
  · exact State.regWrite_of_busy hb idx data
  · obtain ⟨rfl, hbit⟩ := hstart
    exact State.regWrite_start (by simpa using hb) data hbit
  · exact hleaf ▸ State.regWrite_leafCnt (by simpa using hb) data
  · exact hin ▸ State.regWrite_inWords (by simpa using hb) data
  · exact hout ▸ State.regWrite_outWords (by simpa using hb) data
  · rcases State.regWrite_cases s idx data with ⟨hidx, hbit, -⟩ | ⟨hidx, -⟩ | ⟨hidx, -⟩ | ⟨hidx, -⟩ | heq
    · exact absurd ⟨hidx, hbit⟩ hstart
    · exact absurd hidx hleaf
    · exact absurd hidx hin
    · exact absurd hidx hout
    · exact heq

/-- STATUS right after START: BUSY and LEAF_LEVEL alone (R267). -/
theorem State.start_statusWord (s : State) : s.start.statusWord = 0x00000101#32 := by
  rw [State.statusWord, State.busy, State.isDone, State.isError, State.start_fsm, State.start_curLevel,
    State.start_dispatched, State.start_errCode]
  rfl

/-! ### The configuration registers during a run (R265) -/

/-- While BUSY no instruction but RESET changes LEAF_CNT, IN_WORDS or OUT_WORDS. -/
theorem exec_keeps_configuration {i : Instr} {s t : State} (hb : s.busy = true) (hi : i ≠ .reset)
    (h : exec i s = .next t) : t.leafCnt = s.leafCnt ∧ t.inWords = s.inWords ∧ t.outWords = s.outWords := by
  rcases Instr.agent_cases i with hrd | hwr | hreset | rfl | rfl | rfl | ⟨lane, hlane⟩
  · obtain ⟨idx, heq⟩ := exec_of_hostRd hrd s
    cases heq.symm.trans h
    exact ⟨rfl, rfl, rfl⟩
  · obtain ⟨idx, data, heq⟩ := exec_of_hostWr hwr s
    rw [hostWrite_eq, State.regWrite_of_busy hb] at heq
    cases heq.symm.trans h
    exact ⟨rfl, rfl, rfl⟩
  · exact absurd hreset hi
  · rcases execOrcCheck_cases s with heq | ⟨-, -, heq⟩ | ⟨-, -, heq⟩ <;> cases heq.symm.trans h <;>
      exact ⟨rfl, rfl, rfl⟩
  · rcases execOrcDispatch_cases s with heq | ⟨-, -, heq⟩ <;> cases heq.symm.trans h <;> exact ⟨rfl, rfl, rfl⟩
  · rcases execOrcJoin_cases s with heq | ⟨-, -, heq⟩ <;> cases heq.symm.trans h <;> exact ⟨rfl, rfl, rfl⟩
  · obtain ⟨l, -, rfl⟩ := exec_next_turned hlane h
    exact ⟨rfl, rfl, rfl⟩

/-! ### Transfers (R85, R271, R272) -/

section
variable {s : State} {sp : Space} {a : Nat}

theorem hostStore_of_busy (hb : s.busy = true) (ws : List Word) :
    hostStore sp a ws s = .refused .hostMemoryWhileBusy :=
  if_pos hb

theorem hostLoad_of_busy (hb : s.busy = true) (n : Nat) : hostLoad sp a n s = .refused .hostMemoryWhileBusy :=
  if_pos hb

theorem hostStore_out_of_range {ws : List Word} (hb : s.busy = false)
    (hr : Space.size s.cfg sp < a + ws.length) : hostStore sp a ws s = .fault .addressOutOfRange := by
  have hnone : s.memWrite sp a ws = none :=
    Option.eq_none_iff_forall_ne_some.mpr fun t ht => Nat.not_le_of_lt hr (State.memWrite_eq_some.mp ht).1
  simp [hostStore, hb, hnone]

theorem hostLoad_out_of_range {n : Nat} (hb : s.busy = false) (hr : Space.size s.cfg sp < a + n) :
    hostLoad sp a n s = .fault .addressOutOfRange := by
  have hnone : s.memRead sp a n = none :=
    Option.eq_none_iff_forall_ne_some.mpr fun v hv => Nat.not_le_of_lt hr (State.memRead_eq_some.mp hv).1
  simp [hostLoad, hb, hnone]

theorem hostStore_in_range {ws : List Word} (hb : s.busy = false) (hr : a + ws.length ≤ Space.size s.cfg sp) :
    hostStore sp a ws s = .next (s.withMem sp (Memory.writeWords (s.memOf sp) a ws)) := by
  simp [hostStore, hb, State.memWrite_eq_some.mpr ⟨hr, rfl⟩]

theorem hostLoad_in_range {n : Nat} (hb : s.busy = false) (hr : a + n ≤ Space.size s.cfg sp) :
    hostLoad sp a n s = .next { s with xferData := (Memory.readWords (s.memOf sp) a n).toList } := by
  simp [hostLoad, hb, State.memRead_eq_some.mpr ⟨hr, rfl⟩]
end

/-- After a store each offset reads as the word stored there, or as before. -/
theorem Memory.read_writeWords_eq_ite {m : Memory} (h : Memory.wf m = true) (a b : Nat) (ws : List Word) :
    Memory.read (Memory.writeWords m a ws) b =
      if a ≤ b ∧ b < a + ws.length then ws.getD (b - a) 0#32 else Memory.read m b := by
  split_ifs with hin
  · rw [Memory.read_writeWords_inside h hin, List.getD_eq_getElem]
  · exact Memory.read_writeWords_outside h (by omega)

/-! ### The obligations -/

/-- Settles O18: in a legal build the fields of CONFIG do not overlap. -/
theorem configReadsTheBuild : Obligations.ConfigReadsTheBuild :=
  fun s hc => ⟨configWord s.cfg, hostRead_eq 5#4 s, configWord_toNat hc⟩

/-- Settles O20: both writes go to ignored indices; what leaves DONE or ERROR is a row of the FSM's table. -/
theorem statusAndConfigIgnoreWrites : Obligations.StatusAndConfigIgnoreWrites := by
  refine ⟨fun s => ⟨?_, ?_⟩, fun i s t hs h hne => ?_⟩
  · exact congrArg Host.Outcome.next (s.regWrite_of_ignored 0#32 (.inl rfl))
  · exact congrArg Host.Outcome.next (s.regWrite_of_ignored 0#32 (.inr (by decide)))
  · obtain ⟨-, hleave, -⟩ := terminalStatesLeftByStartOrReset i s t h
    rcases hleave hs with hsame | ⟨hstart, -⟩ | ⟨hreset, -⟩
    · exact absurd hsame hne
    · exact .inl hstart
    · exact .inr hreset

/-- Settles O21: a register write by BUSY, and no agent but the Host writes a configuration register. -/
theorem configurationWritesIgnoredWhileBusy : Obligations.ConfigurationWritesIgnoredWhileBusy := by
  intro s data
  refine ⟨fun hb => ⟨?_, ?_, ?_⟩, fun hb => ⟨?_, ?_, ?_, fun i t => exec_keeps_configuration hb⟩⟩
  · exact congrArg Host.Outcome.next (State.regWrite_leafCnt hb data)
  · exact congrArg Host.Outcome.next (State.regWrite_inWords hb data)
  · exact congrArg Host.Outcome.next (State.regWrite_outWords hb data)
  all_goals exact congrArg Host.Outcome.next (State.regWrite_of_busy hb _ data)

/-- Settles O44: a transfer by BUSY and by its range; the words stored are read back, every other word is as before. -/
theorem hostTransfersOnlyWhenNotBusy : Obligations.HostTransfersOnlyWhenNotBusy := by
  intro s sp a ws n hwf
  refine ⟨fun hb => ⟨hostStore_of_busy hb ws, hostLoad_of_busy hb n⟩, hostStore_out_of_range, hostLoad_out_of_range,
    fun hb hr => ⟨_, hostStore_in_range hb hr, ?_, fun b => ?_⟩,
    fun hb hr => ⟨_, hostLoad_in_range hb hr, Vector.length_toList, fun k hk => ?_⟩⟩
  · rw [State.withMem_memOf]
  · rw [State.withMem_memOf]
    exact Memory.read_writeWords_eq_ite hwf a b ws
  · rw [List.getD_eq_getElem _ _ (by simpa using hk), Vector.getElem_toList, Memory.readWords_getElem]

/-- Settles O17: each is the Host's read of its index. -/
theorem ctrlAndConfigurationReads : Obligations.CtrlAndConfigurationReads :=
  fun s => ⟨hostRead_eq 0#4 s, hostRead_eq 2#4 s, hostRead_eq 3#4 s, hostRead_eq 4#4 s⟩

/-- Settles O19: the twenty accesses are `readOf` and `writeOf` of the indices from 6 to 15. -/
theorem reservedIndicesReadZeroIgnoreWrites : Obligations.ReservedIndicesReadZeroIgnoreWrites := by
  have hreserved {n : Nat} (hn : n ∈ List.range' 6 10) : 6 ≤ (BitVec.ofNat 4 n).toNat := by
    have := List.mem_range'_1.mp hn
    rw [BitVec.toNat_ofNat, Nat.mod_eq_of_lt (by omega)]
    omega
  refine fun s => ⟨fun i hi => ?_, fun i hi => ?_⟩
  · have hmap : i ∈ (List.range' 6 10).map fun n => readOf (BitVec.ofNat 4 n) := hi
    obtain ⟨n, hn, rfl⟩ := List.mem_map.mp hmap
    obtain ⟨-, -, -, hexec⟩ := readOf_eq (BitVec.ofNat 4 n)
    rw [hexec, hostRead_eq, s.regRead_of_reserved (hreserved hn)]
  · have hmap : i ∈ (List.range' 6 10).map fun n => writeOf (BitVec.ofNat 4 n) 0#32 := hi
    obtain ⟨n, hn, rfl⟩ := List.mem_map.mp hmap
    obtain ⟨-, -, -, hexec⟩ := writeOf_eq (BitVec.ofNat 4 n) 0#32
    have hge := hreserved hn
    rw [hexec, hostWrite_eq, s.regWrite_of_ignored 0#32 (.inr (by omega))]

/-- Settles O22: the access and the Host's step are the same write to CTRL, which is START or nothing. -/
theorem startEntersLeafLevel : Obligations.StartEntersLeafLevel := by
  intro data s i hi
  have hexec : exec i s = .next (s.regWrite 0#4 data) := by
    rcases hi with rfl | rfl
    · rfl
    · exact congrArg Host.Outcome.next (s.regWrite_ctrl_bit data)
  rw [hexec]
  refine ⟨fun hbit hb => ⟨s.start, ?_, rfl, s.start_statusWord⟩, fun hb => ?_, fun hbit => ?_⟩
  · rw [State.regWrite_start hb data hbit]
  · rw [State.regWrite_of_busy hb]
  · rw [s.regWrite_ctrl_of_clear hbit]

/-- Settles O23: the Host's steps are the register read and the register write of their index. -/
theorem hostStepsByIndex : Obligations.HostStepsByIndex := by
  intro idx data s
  constructor
  · exact (hostRead_eq idx s).trans (by rw [State.regRead_eq])
  · exact congrArg Host.Outcome.next (s.regWrite_eq idx data)

end Sys2Proof.Machine
end

section
/-! Exceptions (spec/60_exceptions.md): the entry to ERROR and the block at rest there, and that it is the only trap, since
no access of a reachable state is out of range. From it O27 and O47. -/

namespace Sys2Proof.Machine

/-! ### Entering ERROR (R283, R286) -/

/-- STATUS right after the entry to ERROR: ERR, the FSM's code and the error code (R118, R283). -/
theorem State.raiseError_statusWord (s : State) (c : ErrCode) :
    (s.raiseError c).statusWord = 0x00000504#32 ||| (c.code.setWidth 32 <<< 4) := by
  rw [State.statusWord, State.busy, State.isDone, State.isError, State.raiseError_fsm, State.raiseError_curLevel,
    State.raiseError_dispatched, State.raiseError_errCode]
  cases c <;> rfl

/-- While the block is not BUSY none of its steps is enabled: it would be one of the run's steps, and none is left. -/
theorem State.Inv.not_enabled_of_not_busy {i : Instr} {s : State} (h : s.Inv) (hb : s.busy = false)
    (hi : i.isBlock = true) : enabled i s = false := by
  by_contra hne
  obtain ⟨t, -, hleft⟩ := h.exec_stepsLeft hi (by simpa using hne)
  rw [State.stepsLeft_of_not_busy hb] at hleft
  omega

/-- Settles O27: the failing check raises its code, and the state it enters keeps the invariant and is not BUSY. -/
theorem failedCheckEntersError : Obligations.FailedCheckEntersError := by
  intro s hinv hf hc
  have herror : (s.raiseError s.check).Inv := hinv.raiseError (by rw [hf]; rfl) hc
  exact ⟨_, exec_orcCheck_of_failed hf hc, rfl, s.raiseError_statusWord s.check,
    fun i hi => herror.not_enabled_of_not_busy rfl hi⟩

/-- A failing ORC_CHECK is the only row of the FSM's table that enters ERROR (R202, R286). -/
theorem fsmRow.check_failed_of_error {i : Instr} {s t : State} (h : fsmRow i s t) (ht : t.fsm = .error) :
    i = .orcCheck ∧ s.fsm = .leafLevel ∧ s.check ≠ .none := by
  rcases h with ⟨-, -, hto, -⟩ | ⟨hi, hf, hc, -⟩ | ⟨-, -, -, -, hto, -⟩ | ⟨-, -, -, -, hto, -⟩ | ⟨-, hf | hf, -, hto, -⟩ |
    ⟨-, -, -, -, hto, -⟩ | ⟨-, -, -, -, hto, -⟩ | ⟨-, -, -, hto, -⟩ | ⟨-, hto, -⟩
  · cases hto.symm.trans ht
  · exact ⟨hi, hf, hc⟩
  iterate 2 cases hto.symm.trans ht
  iterate 2 cases (hto.trans hf).symm.trans ht
  all_goals cases hto.symm.trans ht

/-- A block that is not in ERROR enters it by a failing ORC_CHECK alone (R286). -/
theorem exec_error_entered {i : Instr} {s t : State} (h : exec i s = .next t) (hs : s.fsm ≠ .error)
    (ht : t.fsm = .error) : i = .orcCheck ∧ s.fsm = .leafLevel ∧ s.check ≠ .none := by
  rcases exec_sameOrc_or_fsmRow h with ⟨hsame, -⟩ | hrow
  · exact absurd (hsame.symm.trans ht) hs
  · exact hrow.check_failed_of_error ht

/-! ### No step faults (R288) -/

/-- A step of the Host or of the orchestrator, and RESET, has a next state in every state. -/
theorem exec_next_of_no_lane {i : Instr} (hi : i.lane? = none) (s : State) : ∃ t, exec i s = .next t := by
  rcases Instr.agent_cases i with hrd | hwr | rfl | rfl | rfl | rfl | ⟨lane, hlane⟩
  · obtain ⟨idx, heq⟩ := exec_of_hostRd hrd s
    exact ⟨_, heq⟩
  · obtain ⟨idx, data, heq⟩ := exec_of_hostWr hwr s
    exact ⟨_, heq⟩
  · exact ⟨_, rfl⟩
  · rcases execOrcCheck_cases s with heq | ⟨-, -, heq⟩ | ⟨-, -, heq⟩ <;> exact ⟨_, heq⟩
  · rcases execOrcDispatch_cases s with heq | ⟨-, -, heq⟩ <;> exact ⟨_, heq⟩
  · rcases execOrcJoin_cases s with heq | ⟨-, -, heq⟩ <;> exact ⟨_, heq⟩
  · cases hi.symm.trans hlane

/-- In a state that keeps the invariant an instruction answers a next state, unless it is a step of a lane that the build
does not have (R14, R288). -/
theorem State.Inv.exec_cases {s : State} (h : s.Inv) (i : Instr) :
    (∃ t, exec i s = .next t) ∨ (i.wf s.cfg = false ∧ exec i s = .refused .noSuchLane) := by
  cases hi : i.lane? with
  | none => exact .inl (exec_next_of_no_lane hi s)
  | some lane =>
    cases hl : s.lanes[lane.toNat]? with
    | some l => exact .inl ⟨_, h.exec_eq_turned hi hl⟩
    | none =>
      refine .inr ⟨?_, exec_of_no_such_lane hi hl⟩
      by_contra hwf
      obtain ⟨l, hsome⟩ := h.exists_lane hi (by simpa using hwf)
      cases hl.symm.trans hsome

/-- Settles O47: the invariant leaves an instruction two answers, neither of them a fault, and a level is produced only
after the check, whose failure is the one entry to ERROR. -/
theorem noErrorOnceTheCheckPassed : Obligations.NoErrorOnceTheCheckPassed := by
  intro s i hinv
  refine ⟨fun r hfault => ?_, fun hwf => ?_, fun t hp h ht => ?_⟩
  · rcases hinv.exec_cases i with ⟨t, heq⟩ | ⟨-, heq⟩ <;> cases heq.symm.trans hfault
  · rcases hinv.exec_cases i with hnext | ⟨hnot, -⟩
    · exact hnext
    · cases hnot.symm.trans hwf
  · have hs : s.fsm ≠ .error := by
      intro hf
      rw [hf] at hp
      cases hp
    obtain ⟨-, hf, -⟩ := exec_error_entered h hs ht
    rw [hf] at hp
    cases hp

end Sys2Proof.Machine
end

section
/-! RESET and power-on (spec/70_reset_and_hazards.md R300 to R304): both leave every lane at its reset values and the FSM in
IDLE, and a block like that reads STATUS 0 and has nothing to do. From it O24 and O25. -/

namespace Sys2Proof.Machine

/-! ### A block at its reset values -/

/-- The registers, the FSM and the lanes are as R52 says, whatever the lanes' buffers hold. -/
structure State.AtReset (s : State) : Prop where
  leafCnt : s.leafCnt = 0#32
  inWords : s.inWords = 0#32
  outWords : s.outWords = 0#32
  fsm : s.fsm = .idle
  curLevel : s.curLevel = 0#5
  dispatched : s.dispatched = false
  errCode : s.errCode = .none
  lanes : ∀ l ∈ s.lanes, ∃ buf, l = Lane.resetWith buf

theorem State.atReset_resetBlock (s : State) : s.resetBlock.AtReset := by
  refine ⟨rfl, rfl, rfl, rfl, rfl, rfl, rfl, fun l hl => ?_⟩
  obtain ⟨i, -, rfl⟩ := List.mem_mapIdx.mp hl
  exact ⟨_, rfl⟩

theorem State.atReset_powerOn (c : Config) (bufs : Nat → LaneBuffers) (leaf node : Memory) :
    (State.powerOn c bufs leaf node).AtReset := by
  refine ⟨rfl, rfl, rfl, rfl, rfl, rfl, rfl, fun l hl => ?_⟩
  obtain ⟨i, -, rfl⟩ := List.mem_map.mp hl
  exact ⟨_, rfl⟩

theorem State.AtReset.statusWord {s : State} (h : s.AtReset) : s.statusWord = 0#32 := by
  rw [State.statusWord, State.busy, State.isDone, State.isError, h.fsm, h.curLevel, h.dispatched, h.errCode]
  rfl

/-- A lane at its reset values has no command, so none of its steps is enabled (R54 b). -/
theorem Lane.ready_resetWith (c : Config) (buf : LaneBuffers) : (Lane.resetWith buf).ready c = false := by
  by_contra hne
  have hv := (Lane.ok_resetWith c buf).cmdValid_of_ready (by simpa using hne)
  cases hv

/-- The orchestrator waits for a START, and the lanes for a command. -/
theorem State.AtReset.not_enabled {s : State} {i : Instr} (h : s.AtReset) (hi : i.isBlock = true) :
    enabled i s = false := by
  by_contra hne
  have he : enabled i s = true := by simpa using hne
  rcases Instr.block_cases hi with rfl | rfl | rfl | ⟨lane, hlane⟩
  · cases h.fsm.symm.trans (enabled_orcCheck_iff.mp he)
  · obtain ⟨hf | hf, -⟩ := enabled_orcDispatch_iff.mp he <;> cases h.fsm.symm.trans hf
  · obtain ⟨hf | hf, -⟩ := enabled_orcJoin_iff.mp he <;> cases h.fsm.symm.trans hf
  · obtain ⟨ready, -, hen, -⟩ := exec_eq_laneStep hlane s
    obtain ⟨l, hl, -⟩ := (Option.any_eq_true _ _).mp (hen.symm.trans he)
    obtain ⟨buf, rfl⟩ := h.lanes l (List.mem_of_getElem? hl)
    have hready : (Lane.resetWith buf).ready s.cfg = true :=
      (State.any_enabled_laneSteps hl).symm.trans (List.any_eq_true.mpr ⟨i, mem_laneSteps hlane, he⟩)
    cases (Lane.ready_resetWith s.cfg buf).symm.trans hready

/-- In a legal build, with memories in canonical form within their spaces, the reset values keep the invariant. -/
theorem State.AtReset.inv {s : State} (h : s.AtReset) (hcfg : s.cfg.wf = true) (hlen : s.lanes.length = s.cfg.lanes)
    (hmem : s.MemoriesOk) : s.Inv := by
  have hidle := h.fsm
  refine ⟨hcfg, ⟨hlen, fun l hl => ?_⟩, hmem,
    State.orcOk_of_not_producing (by rw [hidle]; rfl) h.dispatched (fun l hl => ?_) (fun _ => h.curLevel)
      (by simp [hidle, h.errCode])⟩
  all_goals obtain ⟨buf, rfl⟩ := h.lanes l hl
  · exact Lane.ok_resetWith _ _
  · rfl

/-! ### RESET (R300, R302) -/

/-- Settles O24: RESET answers `resetBlock`, which is at its reset values; what it keeps it does not write. -/
theorem resetGivesResetValues : Obligations.ResetGivesResetValues := by
  intro s
  have h := s.atReset_resetBlock
  refine ⟨s.resetBlock, rfl, h.leafCnt, h.inWords, h.outWords, h.fsm, h.curLevel, h.dispatched, h.errCode,
    List.length_mapIdx, fun l hl => ?_, rfl, rfl, rfl, h.statusWord, fun i => h.not_enabled⟩
  obtain ⟨buf, rfl⟩ := h.lanes l hl
  exact ⟨rfl, rfl, rfl, rfl, rfl, rfl, rfl, rfl, rfl, rfl, rfl⟩

/-! ### Power-on (R304) -/

/-- RESET leads from power-on back to it, with the free buffers of the first RESET step (R53, R300). -/
theorem State.resetBlock_powerOn (c : Config) (bufs : Nat → LaneBuffers) (leaf node : Memory) :
    (State.powerOn c bufs leaf node).resetBlock =
      { State.powerOn c (freeBuffers 0) leaf node with resets := 1 } := by
  have hlanes : ((List.range c.lanes).map fun i => Lane.resetWith (bufs i)).mapIdx
      (fun i _ => Lane.resetWith (freeBuffers 0 i)) =
      (List.range c.lanes).map fun i => Lane.resetWith (freeBuffers 0 i) :=
    List.ext_getElem (by simp) (by simp)
  simp only [State.resetBlock, State.powerOn, hlanes]
  rfl

/-- Settles O25: power-on is at its reset values, with the memories that it is given. -/
theorem powerOnKeepsInvariant : Obligations.PowerOnKeepsInvariant := by
  refine ⟨?_, rfl⟩
  rintro c bufs leaf node hcfg hleaf hnode hleafIn hnodeIn s rfl
  have h := State.atReset_powerOn c bufs leaf node
  have hlen : (State.powerOn c bufs leaf node).lanes.length = c.lanes := by simp
  exact ⟨h.inv hcfg hlen ⟨hleaf, hnode, hleafIn, hnodeIn⟩, hlen, rfl, rfl, h.statusWord, fun i => h.not_enabled,
    freeBuffers 0, 1, congrArg Host.Outcome.next (State.resetBlock_powerOn c bufs leaf node)⟩

end Sys2Proof.Machine
end

section
/-! Turns that pass and steps that stop: an agent whose step is not enabled waits (spec/44_lanes.md R230): O38; and a
broken assertion and an undecodable frame stop the machine (spec/60_exceptions.md R289, spec/30_encoding.md): O43. -/

namespace Sys2Proof.Machine

/-! ### An agent that waits (R230) -/

/-- A Host access and RESET are allowed in every state (R260, R300). -/
theorem enabled_of_not_isBlock {i : Instr} (hi : i.isBlock = false) (s : State) : enabled i s = true := by
  cases i with
  | orcCheck | orcDispatch | orcJoin => cases hi
  | prdRead | prdPad | prdSend | engRecv | engCompress | engSend | cnsRecv | cnsWrite | cnsDone => cases hi
  | _ => rfl

theorem exec_orcCheck_of_not_enabled {s : State} (he : enabled .orcCheck s = false) : exec .orcCheck s = .next s :=
  if_neg (Bool.eq_false_iff.mp he)

theorem exec_orcDispatch_of_not_enabled {s : State} (he : enabled .orcDispatch s = false) :
    exec .orcDispatch s = .next s :=
  if_neg (Bool.eq_false_iff.mp he)

/-- A lane step of a lane that the build has waits where it is not enabled. -/
theorem exec_laneStep_of_not_enabled {i : Instr} {lane : BitVec 8} {s : State} {l : Lane} (hi : i.lane? = some lane)
    (hl : s.lanes[lane.toNat]? = some l) (he : enabled i s = false) : exec i s = .next s := by
  obtain ⟨ready, act, hen, hexec⟩ := exec_eq_laneStep hi s
  have hr : ready l = false := (State.laneReady_of_lane hl ready).symm.trans (hen.symm.trans he)
  simp [hexec, laneStep, hl, hr]

/-- With one lane record per lane, a lane step that is well formed for the build finds its lane (R14). -/
theorem State.exists_lane_of_wf {i : Instr} {lane : BitVec 8} {s : State} (hlen : s.lanes.length = s.cfg.lanes)
    (hi : i.lane? = some lane) (hwf : i.wf s.cfg = true) : ∃ l, s.lanes[lane.toNat]? = some l := by
  simp only [Instr.wf, hi, decide_eq_true_eq] at hwf
  exact ⟨_, List.getElem?_eq_getElem (hlen ▸ hwf)⟩

/-- Settles O38: only a step of a block agent can be disabled, and each agent's step then waits. -/
theorem disabledStepsWait : Obligations.DisabledStepsWait := by
  intro i s hlen hwf he
  cases hblock : i.isBlock with
  | false => cases he.symm.trans (enabled_of_not_isBlock hblock s)
  | true =>
    rcases Instr.block_cases hblock with rfl | rfl | rfl | ⟨lane, hlane⟩
    · exact exec_orcCheck_of_not_enabled he
    · exact exec_orcDispatch_of_not_enabled he
    · exact exec_orcJoin_of_not_enabled he
    · obtain ⟨l, hl⟩ := State.exists_lane_of_wf hlen hlane hwf
      exact exec_laneStep_of_not_enabled hlane hl he

/-! ### Where the machine stops (R289, I18, I20) -/

theorem step_of_broken_assertions {s : State} (ha : s.assertions = false) : step s = .fault .assertionFailed := by
  simp [step, ha]

theorem step_of_undecodable_frame {s : State} {f : Frame} {rest : List Input} {e : DecodeError}
    (ha : s.assertions = true) (hin : s.inputs = .frame f :: rest) (hd : decode f = .error e) :
    step s = .refused (.undecodable e) := by
  simp [step, ha, State.advance, hin, State.runFrame, hd]

/-- Settles O43: the assertions come before the input, and the decoder's error is the refusal's. -/
theorem stepStopsByName : Obligations.StepStopsByName :=
  fun _ => ⟨step_of_broken_assertions, fun _ _ _ => step_of_undecodable_frame⟩

end Sys2Proof.Machine
end
